-- ==== Sys2Proof/Word.lean ====
section
/-! DEFINITION. The widths of the machine: parcels, words, addresses, register numbers and vectors (R8, R51 of spec/00_scope.md and spec/20_memory.md). -/

namespace Sys2Proof

/-- A 16-bit instruction parcel (R90). -/
abbrev Parcel := BitVec 16

/-- A 64-bit word: an S register, a vector element, a word of either memory (R22, R33, R34). -/
abbrev Word := BitVec 64

/-- A 32-bit quantity: an A register, P, BA, LA, a relative or absolute word address, a parcel address (R21, R24 to R26). -/
abbrev Addr := BitVec 32

/-- A register designator, 0 to 7 (R91). -/
abbrev Reg := Fin 8

/-- An element number of a vector register, 0 to 63 (R23). -/
abbrev Elem := Fin 64

/-- The 64 elements of a vector register (R23). -/
abbrev Vect := Vector Word 64

end Sys2Proof
end

