-- ==== Sys2Proof/Config.lean ====
section
/-! DEFINITION. What the spec leaves to a machine or leaves open: the values of the spec's own switches as types, and the free values as constants without a body. -/

namespace Sys2Proof

/-- `PARCEL_ORDER` (R55, D1): which end of a word parcel `a` is. -/
inductive ParcelOrder where
  /-- Parcel `a` is bits 63 to 48, the spec's default. -/
  | highFirst
  /-- Parcel `a` is bits 15 to 0. -/
  | lowFirst
deriving DecidableEq, Repr

/-- `LM_ADDR_MODE` (R66, D5): a Local Memory address of 16384 or more. -/
inductive LmAddrMode where
  /-- The reference is a fault of the run, the spec's default. -/
  | fault
  /-- The low 14 bits of the address are used. -/
  | wrap14
deriving DecidableEq, Repr

/-- `V_SRC_EQ_DST` (R131, R291, D12): what a vector source that is also the destination supplies. -/
inductive OverlapMode where
  /-- The instruction is refused. -/
  | refuse
  /-- The overlapping source reads as zero, as in the four stated special forms. -/
  | zeros
  /-- The source elements are read before they are overwritten. -/
  | old
  /-- The overlapping source supplies free values (log 27). -/
  | anyValue
deriving DecidableEq, Repr

/-- `BPS_ENABLE_BIT_ORDER` (R31, D9): which of status bits 21 and 22 is which enable. -/
inductive EnableBitOrder where
  | range21Fp22
  | fp21Range22
deriving DecidableEq, Repr

/-- `IOTA_ACC` (R329, D17): the width and the extension of the iota accumulator. -/
inductive IotaAcc where
  | acc32Zext
  | acc64Zext
  | acc64Sext
deriving DecidableEq, Repr, Inhabited

/-- The operations that force a signature exponent (R136). -/
inductive FpOp where
  | add
  | mul
  | recip
  | rsqrt
deriving DecidableEq, Repr

/-- `CM_KIND` (R7): the storage of Common Memory. -/
inductive CmKind where
  | dynamic
  | static
deriving DecidableEq, Repr

/-- The models of the table of R7. -/
inductive Model where
  /-- CRAY-2 4-256. -/
  | m4x256
  /-- CRAY-2 4-512. -/
  | m4x512
  /-- CRAY-2S 4-128. -/
  | s4x128
  /-- CRAY-2S 2-128. -/
  | s2x128
  /-- CRAY-2S 2-64. -/
  | s2x64
deriving DecidableEq, Repr

/-- A row of the table of R7. -/
structure ModelRow where
  /-- `NUM_BP`. -/
  numBp : Nat
  channels : Nat
  maxIoDevices : Nat
  maxDsus : Nat
  hsx : Nat
  externalIo : Nat
  /-- `CM_KIND`. -/
  cmKind : CmKind
  quadrants : Nat
  /-- `CM_BANKS`. -/
  cmBanks : Nat
  /-- `CM_WORDS`; 1 Mword is 2^20 words. -/
  cmWords : Nat
deriving DecidableEq, Repr

/-- The table of R7. -/
def Model.row : Model → ModelRow
  | .m4x256 =>
    { numBp := 4, channels := 4, maxIoDevices := 40, maxDsus := 36, hsx := 8, externalIo := 16,
      cmKind := .dynamic, quadrants := 4, cmBanks := 128, cmWords := 2 ^ 28 }
  | .m4x512 =>
    { numBp := 4, channels := 4, maxIoDevices := 40, maxDsus := 36, hsx := 8, externalIo := 16,
      cmKind := .dynamic, quadrants := 4, cmBanks := 128, cmWords := 2 ^ 29 }
  | .s4x128 =>
    { numBp := 4, channels := 4, maxIoDevices := 40, maxDsus := 36, hsx := 8, externalIo := 16,
      cmKind := .static, quadrants := 4, cmBanks := 128, cmWords := 2 ^ 27 }
  | .s2x128 =>
    { numBp := 2, channels := 2, maxIoDevices := 20, maxDsus := 18, hsx := 4, externalIo := 8,
      cmKind := .static, quadrants := 4, cmBanks := 128, cmWords := 2 ^ 27 }
  | .s2x64 =>
    { numBp := 2, channels := 2, maxIoDevices := 20, maxDsus := 18, hsx := 4, externalIo := 8,
      cmKind := .static, quadrants := 4, cmBanks := 64, cmWords := 2 ^ 26 }

/-- What the serial number decides (R7; the 2-27 of another place is 2027, spec/90_conflicts.md). -/
inductive SerialNumber where
  /-- S/N 2025: Shared registers and tailgating. -/
  | sn2025
  /-- S/N 2027 and above: tailgating. -/
  | sn2027AndAbove
  /-- Every other serial number: neither. -/
  | other
deriving DecidableEq, Repr

/-- `IBUF_FIELD_WORDS` (R7, R38): the words in each of the eight fields of the instruction buffer. -/
inductive IbufField where
  | words16
  | words32
deriving DecidableEq, Repr

/-- The machine and spec parameters (R7, R384). They are fixed for a machine; State carries them so that every statement holds for each of them (log 7). The parameters that R7 names and that are no field here are functions of the model and of the serial number, below. -/
structure Params where
  /-- The row of the table of R7: `NUM_BP`, `CM_WORDS`, `CM_BANKS`, `CM_KIND`. -/
  model : Model
  /-- `HAS_TAILGATING` and `HAS_SHARED_REGS`. -/
  serial : SerialNumber
  /-- `IBUF_FIELD_WORDS`, timing only (R38). -/
  ibufField : IbufField
  /-- `PARCEL_ORDER`. -/
  parcelOrder : ParcelOrder
  /-- `LM_ADDR_MODE`. -/
  lmAddrMode : LmAddrMode
  /-- `V_SRC_EQ_DST`. -/
  vSrcEqDst : OverlapMode
  /-- `CM_PROGRAM_ORDER` (R71, D6). -/
  cmProgramOrder : Bool
  /-- `BPS_ENABLE_BIT_ORDER`. -/
  enableBitOrder : EnableBitOrder
deriving DecidableEq, Repr

/-- `NUM_BP`: the Background Processors of the machine, 2 or 4, of which State is one (R7, R358; log 45). -/
def Params.numBp (q : Params) : Nat := q.model.row.numBp

/-- `CM_WORDS`: the installed words of Common Memory (R7, R52). -/
def Params.cmWords (q : Params) : Nat := q.model.row.cmWords

/-- `CM_BANKS`, timing only (R7). -/
def Params.cmBanks (q : Params) : Nat := q.model.row.cmBanks

/-- `CM_KIND`, timing only (R7). -/
def Params.cmKind (q : Params) : CmKind := q.model.row.cmKind

/-- `IBUF_FIELD_WORDS`, timing only (R7, R38). -/
def Params.ibufFieldWords (q : Params) : Nat :=
  match q.ibufField with
  | .words16 => 16
  | .words32 => 32

/-- `HAS_TAILGATING`, timing only: true on S/N 2025, 2027 and above (R7, R292). -/
def Params.hasTailgating (q : Params) : Bool :=
  match q.serial with
  | .sn2025 => true
  | .sn2027AndAbove => true
  | .other => false

/-- `HAS_SHARED_REGS`: true on S/N 2025 only (R7, R286). -/
def Params.hasSharedRegs (q : Params) : Bool :=
  match q.serial with
  | .sn2025 => true
  | .sn2027AndAbove => false
  | .other => false

/-- The parameters at their defaults: the spec's where it gives one; the 4-256 machine, a serial number without options, buffer fields of 16 words, and free values for overlapping vector sources (log 7, DESIGN CHOICE). -/
def Params.default : Params :=
  { model := .m4x256, serial := .other, ibufField := .words16,
    parcelOrder := .highFirst, lmAddrMode := .fault, vSrcEqDst := .anyValue,
    cmProgramOrder := false, enableBitOrder := .range21Fp22 }

/-! Free values drawn by the counter `State.draws` (log 8). -/

/-- Which of the values waiting at an address, the word in memory among them, a load sees: draw, element (R71 iv, D6; log 16). -/
opaque Config.loadOrder : Nat → Nat → Nat

/-- Which of the values waiting at an address reaches memory last: draw, address (R70, R71, D6, D7; log 18). -/
opaque Config.storeOrder : Nat → Nat → Nat

/-- Whether a store overtakes an outstanding read of its address: draw, element of the store, place of the read in the port (R71 iv, D6; log 17). -/
opaque Config.readOvertaken : Nat → Nat → Nat → Bool

/-- What a vector source that is also the destination supplies under `anyValue`: draw, element (R131, D12; log 27). -/
opaque Config.overlapSource : Nat → Nat → Word

/-- A reading of the real-time clock before it is held against the last one: draw (R356, D15; log 31). -/
opaque Config.rtcReading : Nat → Word

/-- Whether P is past the instruction that stopped the processor or still at it: draw (R160, R349, D18; log 29). -/
opaque Config.stopsPast : Nat → Bool

/-! Free values fixed for a machine. -/

/-- `IOTA_ACC`, which the spec leaves without a default (R329, D17; log 41). -/
opaque Config.iotaAcc : IotaAcc

/-- Sign and coefficient of a word whose exponent is forced to a signature: operation, operands (R136; log 32). -/
opaque Config.forcedRest : FpOp → Word → Word → BitVec 49

/-- Which of the two bracketing numbers an inexact sum or product is: true for the larger magnitude (R137; log 33). -/
opaque Config.roundsUp : FpOp → Word → Word → Bool

/-- Whether a sum of in-range operands whose exponent passes 0o57777 is signalled (R138; log 34). -/
opaque Config.addOverflowSignals : Word → Word → Bool

/-- Whether a sum whose exponent falls below 0o20000 is delivered as zero (R138; log 34). -/
opaque Config.addTinyIsZero : Word → Word → Bool

/-- Which of the two bracketing integers `Fix` of a non-integer is: true for the larger magnitude (R140, `FIX_MODE`; log 35). -/
opaque Config.fixRoundsUp : Word → Bool

/-- `Fix` of a value of magnitude 2^47 to 2^48 (R140, `FIX_MODE`; log 35). -/
opaque Config.fixWide : Word → Word × Bool

/-- Whether `Flt` reads 48 bits that are no sign-extended integer as unsigned (R141; log 36). -/
opaque Config.fltReadsUnsigned : BitVec 48 → Bool

/-- Whether the multiply tests exponents after the one-place normalising shift (R142; log 37). -/
opaque Config.mulTestsAfterShift : Word → Word → Bool

/-- Whether a product with an operand whose exponent field is 1 to 0o17777 is zero (R148; log 37). -/
opaque Config.mulSmallIsZero : Word → Word → Bool

/-- How far beyond the least exact place an exact product of unnormalised operands is shifted left (R142; log 37). -/
opaque Config.mulShift : Word → Word → Nat

/-- Whether a zero product of unnormalised operands is the word of all zeros (R142; log 37). -/
opaque Config.mulZeroWord : Word → Word → Bool

/-- The exponent field of a zero product that is not the word of all zeros (R142; log 37). -/
opaque Config.mulZeroExponent : Word → Word → BitVec 15

/-- Exponent and coefficient of an inexact product of unnormalised operands (R135, R142; log 37). -/
opaque Config.mulUnnormalised : Word → Word → BitVec 63

/-- `RecipApprox` of an in-range operand (R144; log 38). -/
opaque Config.recipApprox : Word → Word

/-- `RecipIter` (R145; log 40). -/
opaque Config.recipIter : Word → Word → Word × Bool

/-- `RsqrtApprox` of a positive in-range operand (R146; log 39). -/
opaque Config.rsqrtApprox : Word → Word

/-- `RsqrtApprox` of a positive operand whose exponent field is 4 to 0o17777 (R146; log 39). -/
opaque Config.rsqrtSmall : Word → Word × Bool

/-- `RsqrtIter` (R147; log 40). -/
opaque Config.rsqrtIter : Word → Word → Word × Bool

end Sys2Proof
end

