-- ==== Sys2Proof/Machine/Memory.lean ====
section
/-! DEFINITION. A memory of 64-bit words as plain data: Common Memory and Local Memory (R33, R34, R51). -/

namespace Sys2Proof.Machine

/-- A memory: word addresses with the words that differ from what an unlisted address reads as, in rising order of address (`Memory.wf`). The cell is the word, the smallest unit a data instruction can address (R51; log 4). -/
abbrev Memory := List (Nat × Word)

/-- What an address that is not listed reads as. DESIGN CHOICE (log 3): the spec gives memory no value before it is written (R43, D14). -/
def Memory.unlisted : Word := 0

/-- The word at an address (R59). -/
def Memory.read : Memory → Nat → Word
  | [], _ => Memory.unlisted
  | (b, w) :: m, a => if b = a then w else Memory.read m a

/-- Puts a word in its place in the list. -/
def Memory.insert : Memory → Nat → Word → Memory
  | [], a, v => [(a, v)]
  | (b, w) :: m, a, v =>
    if a < b then (a, v) :: (b, w) :: m
    else if a = b then (a, v) :: m
    else (b, w) :: Memory.insert m a v

/-- Stores a word, keeping the canonical form: the value an unlisted address reads as is not listed (R59). -/
def Memory.write (m : Memory) (a : Nat) (v : Word) : Memory :=
  if v = Memory.unlisted then m.filter (fun c => c.1 ≠ a) else Memory.insert m a v

/-- The canonical form: addresses strictly rising, below `bound`, and no listed word that an unlisted address would read as anyway. -/
def Memory.wf (bound : Nat) (m : Memory) : Bool :=
  decide (m.Pairwise (fun c d => c.1 < d.1)) && m.all (fun c => decide (c.1 < bound) && decide (c.2 ≠ Memory.unlisted))

end Sys2Proof.Machine
end

