-- ==== Sys2Proof/Machine/State.lean ====
section
/-! DEFINITION. The state of one Background Processor and of what it shares, as plain data (R20), the reasons a step can stop, and the state after reset (R43, R382). -/

namespace Sys2Proof.Machine

/-- The run state (R32, R353). -/
inductive RunState where
  | idle
  | running
deriving DecidableEq, Repr

/-- The outcome of a run that has ended (R341, R363). -/
inductive RunEnd where
  /-- `Exited(code)`: instruction 000 (R160). -/
  | exited (code : BitVec 6)
  /-- `Halted(RangeError)` (R343). -/
  | haltedRange
  /-- `Halted(FPError)` (R344). -/
  | haltedFp
deriving DecidableEq, Repr

/-- The Background Port Status register as the record of the fields the sources name; no layout is given but bits 21 and 22 (R30, R31, D9; log 24). -/
structure Bps where
  /-- The Exit Mode flag, set by 000. -/
  exitMode : Bool
  /-- The Idle Mode flag, set by 000 and by a halt. -/
  idleMode : Bool
  /-- The exit code, the `jk` of 000. -/
  exitCode : BitVec 6
  /-- Which semaphore flag is assigned to this processor (R28). -/
  semSelect : Reg
  /-- Set when this processor changes its flag from 0 to 1, cleared by its 007. -/
  semBit : Bool
  /-- Halt on memory range error is enabled (R31). -/
  rangeHaltEnable : Bool
  /-- The floating-point error signal and halt are enabled (R31, R208). -/
  fpEnable : Bool
  /-- The memory range error signal (R61, R342). -/
  rangeError : Bool
  /-- The floating-point error signal (R136, R344). -/
  fpError : Bool
deriving DecidableEq, Repr

/-- A Common Memory write that has issued and may not be complete: absolute word address and value (R40, R71). -/
structure PendingWrite where
  addr : Nat
  value : Word
deriving DecidableEq, Repr

/-- The register or vector element that a Common Memory read delivers to. -/
inductive LoadDest where
  | s (n : Reg)
  | v (n : Reg) (e : Elem)
deriving DecidableEq, Repr

/-- A Common Memory read that has issued and may not be complete: absolute word address and destination (R40, R71). Its destination already holds the value it delivers unless a later write to the address overtakes it (log 17). -/
structure PendingRead where
  addr : Nat
  dest : LoadDest
deriving DecidableEq, Repr

/-- The references of the Common Memory port that may not be complete, oldest first (R40). -/
structure Port where
  writes : List PendingWrite
  reads : List PendingRead
deriving DecidableEq, Repr

/-- A port with nothing outstanding: what R382 takes at a launch, and what 001 and a stop leave (R71, R73; log 30). -/
def Port.empty : Port := { writes := [], reads := [] }

/-- The state of the machine (R20 to R40). -/
structure State where
  /-- The Program Address register, a parcel address relative to BA (R24). -/
  p : Addr
  /-- The base address register (R25). -/
  ba : Addr
  /-- The limit address register (R26). -/
  la : Addr
  /-- The A registers (R21). -/
  areg : Vector Addr 8
  /-- The S registers (R22). -/
  sreg : Vector Word 8
  /-- The V registers (R23). -/
  vreg : Vector Vect 8
  /-- The Vector Length register; 0 means 64 (R37). -/
  vl : BitVec 6
  /-- The Vector Mask register; bit 63 - e belongs to element e (R36). -/
  vm : Word
  /-- The real-time clock as last read (R27, R356). -/
  rtc : Word
  /-- The Background Port Status register (R30). -/
  bps : Bps
  /-- Running or in idle mode (R32). -/
  run : RunState
  /-- The outcome of the last run, none while the processor has not stopped (R341). -/
  ended : Option RunEnd
  /-- Local Memory, word addresses 0 to 16383 (R33). -/
  lm : Memory
  /-- Common Memory, absolute word addresses (R34). -/
  cm : Memory
  /-- The Common Memory port (R40). -/
  port : Port
  /-- The Common Memory words stored to in this computation period, of which the instruction buffers may hold old copies (R38, R77). -/
  dirty : List Nat
  /-- The semaphore flags (R28). -/
  sem : Vector Bool 8
  /-- The Shared registers (R29). -/
  sr : Vector Addr 8
  /-- The machine and spec parameters, which nothing writes (R7, R384; log 7). -/
  params : Params
  /-- The MODEL's own counter from which free values are drawn (log 8). -/
  draws : Nat
deriving DecidableEq, Repr

/-- Why a run cannot go on although an instruction has a meaning. -/
inductive Fault where
  /-- A Local Memory address of 16384 or more under `LM_ADDR_MODE` = `fault` (R66, D5). Raised by the Local Memory references; safe, the model stops where the hardware goes on. -/
  | localMemoryAddress
  /-- An absolute address inside the field at or above `CM_WORDS`, where there is no storage (R52, R62). Raised by Common Memory references and instruction fetch; safe, launch premise P1 excludes it. -/
  | beyondInstalledMemory
deriving DecidableEq, Repr

/-- Why the spec gives an instruction or a run no meaning. -/
inductive Refusal where
  /-- An instruction the model does not treat yet. Raised by `exec` alone; safe. -/
  | notModelled (mnemonic : String)
  /-- 035 with k of 4 or more, 106 or 164 with k of 2 or more (R98, R208, R258, R318). Raised by their meanings; safe, no effect is claimed. -/
  | undescribedSubcode
  /-- 134, 136 or 137 with j of 2 or more on a machine with Shared registers (R286, D25). Raised by their meanings; safe. -/
  | sharedRegisterNumber
  /-- A fetch of a word stored to in the same computation period (R77, R363, D8). Raised by `step`; safe. -/
  | selfModifiedCode
  /-- A vector instruction whose destination is one of its sources, under `V_SRC_EQ_DST` = `refuse` (R291, D12). Raised by the vector meanings; safe. -/
  | vectorOverlap
deriving DecidableEq, Repr

/-- What a meaning answers. -/
abbrev Result := Host.Outcome State Fault Refusal

/-- The status register after reset: idle (R381), every other field 0 (log 1, DESIGN CHOICE). -/
def Bps.reset : Bps :=
  { exitMode := false, idleMode := true, exitCode := 0, semSelect := 0, semBit := false,
    rangeHaltEnable := false, fpEnable := false, rangeError := false, fpError := false }

/-- The machine after deadstart: idle (R381); every register the spec gives no value is 0 (R43; log 1, DESIGN CHOICE), and no word of either memory is listed (log 3, DESIGN CHOICE). That the port is empty, no read outstanding and no word counted as stored to is the model's too (log 59, DESIGN CHOICE): after deadstart R382 calls the quadrant buffers, the reservation flags and the instruction buffers unspecified. -/
def State.reset : State :=
  { p := 0, ba := 0, la := 0,
    areg := Vector.replicate 8 0, sreg := Vector.replicate 8 0, vreg := Vector.replicate 8 (Vector.replicate 64 0),
    vl := 0, vm := 0, rtc := 0, bps := Bps.reset, run := .idle, ended := none,
    lm := [], cm := [], port := Port.empty, dirty := [],
    sem := Vector.replicate 8 false, sr := Vector.replicate 8 0,
    params := Params.default, draws := 0 }

end Sys2Proof.Machine
end

