-- ==== Sys2Proof/Machine/Ops.lean ====
section
/-! DEFINITION. The named operations over registers, the status register, the two memories and the port, and stopping the processor: what the meanings are written with. -/

namespace Sys2Proof.Machine

/-! Registers. No register is hard-wired (R21, R22). -/

/-- `A[n]` (R12, R21). -/
def State.A (s : State) (n : Reg) : Addr := s.areg.get n

/-- `S[n]` (R12, R22). -/
def State.S (s : State) (n : Reg) : Word := s.sreg.get n

/-- `V[n][e]` (R12, R23). -/
def State.V (s : State) (n : Reg) (e : Elem) : Word := (s.vreg.get n).get e

/-- `A[n] <- v`. -/
def State.setA (n : Reg) (v : Addr) (s : State) : State := { s with areg := s.areg.set n.val v n.isLt }

/-- `S[n] <- v`. -/
def State.setS (n : Reg) (v : Word) (s : State) : State := { s with sreg := s.sreg.set n.val v n.isLt }

/-- All 64 elements of `V[n]`. -/
def State.setVect (n : Reg) (v : Vect) (s : State) : State := { s with vreg := s.vreg.set n.val v n.isLt }

/-- `V[n][e] <- v`. -/
def State.setElem (n : Reg) (e : Elem) (v : Word) (s : State) : State :=
  s.setVect n ((s.vreg.get n).set e.val v e.isLt)

/-- `VL <- v` (R37). -/
def State.setVl (v : BitVec 6) (s : State) : State := { s with vl := v }

/-- `VM <- v` (R36). -/
def State.setVm (v : Word) (s : State) : State := { s with vm := v }

/-- The real-time clock as now read (R356). -/
def State.setRtc (v : Word) (s : State) : State := { s with rtc := v }

/-- The status register (R30). -/
def State.setBps (b : Bps) (s : State) : State := { s with bps := b }

/-- `SR[n] <- v` (R29). -/
def State.setSr (n : Reg) (v : Addr) (s : State) : State := { s with sr := s.sr.set n.val v n.isLt }

/-- Local Memory (R33). -/
def State.setLm (m : Memory) (s : State) : State := { s with lm := m }

/-- `P <- t` (R24, R164). -/
def State.jump (t : Addr) (s : State) : State := { s with p := t }

/-- P moves past an instruction of `len` parcels, modulo 2^32 (R24, R94, D3). -/
def State.advance (len : Nat) (s : State) : State := s.jump (s.p + BitVec.ofNat 32 len)

/-- A taken branch sets P to the target, a branch not taken moves past its three parcels (R164). -/
def State.branch (taken : Bool) (target : Addr) (s : State) : State :=
  if taken then s.jump target else s.advance 3

/-! Vector length (R37, R129). -/

/-- `VLEN()`: the vector length in force. -/
def State.vlen (s : State) : Nat := if s.vl = 0 then 64 else s.vl.toNat

/-- The elements 0 to `VLEN()` - 1. -/
def State.elements (s : State) : List Elem := (List.finRange 64).filter (fun e => e.val < s.vlen)

/-- `V[i][e] <- f e` for the elements below `n`; the others keep their contents (R129). -/
def State.writeElems (i : Reg) (n : Nat) (f : Elem → Word) (s : State) : State :=
  s.setVect i (Vector.ofFn fun e => if e.val < n then f e else s.V i e)

/-! Common Memory: relocation and range (R60, R61). -/

/-- `abs = (BA + r) mod 2^32` (R60, D23). -/
def State.cmAbs (s : State) (r : Addr) : Addr := s.ba + r

/-- In range if and only if `BA <= abs < LA`, unsigned (R61). -/
def State.inField (s : State) (abs : Addr) : Bool := decide (s.ba ≤ abs) && decide (abs < s.la)

/-- In the field, where no storage is installed (R52, R62; log 42). -/
def State.missing (s : State) (abs : Addr) : Bool := s.inField abs && decide (s.params.cmWords ≤ abs.toNat)

/-! Common Memory: the port and the order of references (R69 to R71). -/

/-- One of several values, by a free number; nothing is free where there is one value or none. -/
def pickFrom (n : Nat) (d : Word) : List Word → Word
  | [] => d
  | [w] => w
  | w :: ws => (w :: ws).getD (n % (ws.length + 1)) d

/-- The values waiting in the port for an address, oldest first. -/
def State.waiting (s : State) (a : Nat) : List Word := (s.port.writes.filter (fun w => w.addr = a)).map (·.value)

/-- What a read of an address gets: the word in memory or any value waiting for it (R71 iv, D6; log 16). -/
def State.cmLoad (s : State) (e a : Nat) : Word :=
  pickFrom (Config.loadOrder s.draws e) (s.cm.read a) (s.cm.read a :: s.waiting a)

/-- Common Memory with every waiting write in it; of several values for one address any one is last (R70, D7; log 18). -/
def State.landed (s : State) : Memory :=
  s.port.writes.foldl
    (fun m w => m.write w.addr (pickFrom (Config.storeOrder s.draws w.addr) w.value (s.waiting w.addr))) s.cm

/-- The writes issued so far are complete (R71 ii). -/
def State.land (s : State) : State := { s with cm := s.landed, port := { writes := [], reads := s.port.reads } }

/-- No reference is outstanding (R71 i, R73). -/
def State.quiesce (s : State) : State := { s with cm := s.landed, port := Port.empty }

/-- Under `CM_PROGRAM_ORDER` an instruction's writes are complete before the next (R71; log 19). -/
def State.settle (s : State) : State := if s.params.cmProgramOrder then s.land else s

/-- A read has issued; it is outstanding unless `CM_PROGRAM_ORDER` holds (R71; log 17, log 19). -/
def State.noteRead (a : Nat) (d : LoadDest) (s : State) : State :=
  if s.params.cmProgramOrder then s
  else { s with port := { writes := s.port.writes, reads := s.port.reads ++ [{ addr := a, dest := d }] } }

/-- A value delivered to the destination of a read. -/
def State.deliver (d : LoadDest) (v : Word) (s : State) : State :=
  match d with
  | .s n => s.setS n v
  | .v n e => s.setElem n e v

/-- A write of `v` may overtake any outstanding read of its address, which then delivers `v` (R71 iv, D6; log 17). -/
def State.overtake (draw e a : Nat) (v : Word) : Nat → List PendingRead → State → State
  | _, [], s => s
  | k, r :: rs, s =>
    State.overtake draw e a v (k + 1) rs
      (if r.addr = a ∧ Config.readOvertaken draw e k = true then s.deliver r.dest v else s)

/-- A write of one word has issued: it waits in the port, and the word counts as stored to (R71, R77). -/
def State.storeWord (e a : Nat) (v : Word) (s : State) : State :=
  let t := State.overtake s.draws e a v 0 s.port.reads s
  { t with
    port := { writes := s.port.writes ++ [{ addr := a, value := v }], reads := s.port.reads }
    dirty := s.dirty.insert a }

/-! Stopping: this machine's only exception entry. Nothing is saved and control goes nowhere (R340, R349); there is no return (R354). -/

/-- The processor stops at an instruction of `len` parcels: what has issued completes, the processor is idle, the outcome is recorded, and P is at the instruction or past it (R343, R344, R348, R349, D13, D18; log 28 to log 30). -/
def State.stop (why : RunEnd) (len : Nat) (s : State) : State :=
  let t := s.quiesce
  { t with
    p := if Config.stopsPast s.draws then s.p + BitVec.ofNat 32 len else s.p
    bps := { s.bps with idleMode := true }
    run := .idle
    ended := some why }

/-- `Exit(code)` (R15, R160): the three status fields, then idle. -/
def State.exitWith (code : BitVec 6) (s : State) : State :=
  (s.setBps { s.bps with exitMode := true, exitCode := code }).stop (.exited code) 1

/-- The memory range error signal (R61, R342). -/
def State.signalRange (s : State) : State := s.setBps { s.bps with rangeError := true }

/-- The end of an instruction that references Common Memory: with a range error the signal is sent and, where enabled, the processor halts (R15, R343). -/
def State.completeRef (err : Bool) (len : Nat) (s : State) : State :=
  if err then
    if s.bps.rangeHaltEnable then s.signalRange.stop .haltedRange len else s.signalRange.advance len
  else s.advance len

/-- The end of a floating-point instruction: where enabled, a range error is signalled and the processor halts (R15, R136, R344). -/
def State.completeFp (err : Bool) (s : State) : State :=
  if err && s.bps.fpEnable then (s.setBps { s.bps with fpError := true }).stop .haltedFp 1 else s.advance 1

/-! Common Memory references of the instructions (R60 to R64, R234). -/

/-- `S[i] <- CMRead(r)` by an instruction of `len` parcels. -/
def loadWord (i : Reg) (r : Addr) (len : Nat) (s : State) : Result :=
  let a := s.cmAbs r
  if s.missing a then .fault .beyondInstalledMemory
  else if s.inField a then .next (((s.setS i (s.cmLoad 0 a.toNat)).noteRead a.toNat (.s i)).advance len)
  else .next ((s.setS i 0).completeRef true len)

/-- `CMWrite(r, v)` by an instruction of `len` parcels. -/
def writeWord (r : Addr) (v : Word) (len : Nat) (s : State) : Result :=
  let a := s.cmAbs r
  if s.missing a then .fault .beyondInstalledMemory
  else if s.inField a then .next ((s.storeWord 0 a.toNat v).settle.advance len)
  else .next (s.completeRef true len)

/-- Some element's reference is in the field where no storage is. -/
def State.someMissing (s : State) (addr : Elem → Addr) : Bool := s.elements.any (fun e => s.missing (s.cmAbs (addr e)))

/-- Some element's reference is a range error (R63, R234). -/
def State.someOut (s : State) (addr : Elem → Addr) : Bool := s.elements.any (fun e => !s.inField (s.cmAbs (addr e)))

/-- What `CMRead` gives element `e` (R63, R234). -/
def State.elemLoad (s : State) (addr : Elem → Addr) (e : Elem) : Word :=
  if s.inField (s.cmAbs (addr e)) then s.cmLoad e.val (s.cmAbs (addr e)).toNat else 0

/-- The reads of the elements in the field are outstanding. -/
def State.noteReads (s : State) (i : Reg) (addr : Elem → Addr) (t : State) : State :=
  s.elements.foldl
    (fun t e => if s.inField (s.cmAbs (addr e)) then t.noteRead (s.cmAbs (addr e)).toNat (.v i e) else t) t

/-- `for e: V[i][e] <- CMRead(addr e)` (R226, R228, R234). -/
def loadElems (i : Reg) (addr : Elem → Addr) (s : State) : Result :=
  if s.someMissing addr then .fault .beyondInstalledMemory
  else .next ((s.noteReads i addr (s.writeElems i s.vlen (s.elemLoad addr))).completeRef (s.someOut addr) 1)

/-- The writes of the elements in the field have issued, element 0 first (R70, R234). -/
def State.storeElems (s : State) (addr : Elem → Addr) (data : Elem → Word) : State :=
  s.elements.foldl
    (fun t e => if s.inField (s.cmAbs (addr e)) then t.storeWord e.val (s.cmAbs (addr e)).toNat (data e) else t) s

/-- `for e: CMWrite(addr e, data e)` (R227, R229, R234). -/
def writeElemsCm (addr : Elem → Addr) (data : Elem → Word) (s : State) : Result :=
  if s.someMissing addr then .fault .beyondInstalledMemory
  else .next ((s.storeElems addr data).settle.completeRef (s.someOut addr) 1)

/-! Local Memory (R65 to R67). Its references take effect in program order (R405, D30). -/

/-- Where a Local Memory address leads: below 16384 to itself; above, by `LM_ADDR_MODE`, nowhere or to its low 14 bits (R66, D5; log 14). -/
def State.lmSlot (s : State) (a : Addr) : Option Nat :=
  if a.toNat < 16384 then some a.toNat
  else
    match s.params.lmAddrMode with
    | .fault => none
    | .wrap14 => some (a.toNat % 16384)

/-- An instruction that references one Local Memory word: `k` says what it does with the word's place. -/
def withLm (a : Addr) (s : State) (k : Nat → State) : Result :=
  match s.lmSlot a with
  | none => .fault .localMemoryAddress
  | some n => .next (k n)

/-- `LMWrite` to a place (R14). -/
def State.lmWrite (n : Nat) (v : Word) (s : State) : State := s.setLm (s.lm.write n v)

/-- Some element's Local Memory address leads nowhere (R67). -/
def State.lmBad (s : State) (a : Addr) : Bool :=
  s.elements.any (fun e => (s.lmSlot (a + BitVec.ofNat 32 e.val)).isNone)

/-- The place of element `e` of a vector reference at `a` (R67); 0 stands for no place, where `lmBad` holds. -/
def State.lmPlace (s : State) (a : Addr) (e : Elem) : Nat := (s.lmSlot (a + BitVec.ofNat 32 e.val)).getD 0

/-- `for e: LMWrite(a + e, data e)` (R231). -/
def State.lmWriteElems (s : State) (a : Addr) (data : Elem → Word) : State :=
  s.setLm (s.elements.foldl (fun m e => m.write (s.lmPlace a e) (data e)) s.lm)

/-! The semaphore (R28, R75). -/

/-- `SEMF`: the flag assigned to this processor. -/
def State.semf (s : State) : Bool := s.sem.get s.bps.semSelect

/-- Sets the flag, and the semaphore bit if the flag was 0 (R165 to R167). -/
def State.takeSem (s : State) : State :=
  { s with
    sem := s.sem.set s.bps.semSelect.val true s.bps.semSelect.isLt
    bps := { s.bps with semBit := s.bps.semBit || !s.semf } }

/-- Clears the flag and the semaphore bit (R168). -/
def State.dropSem (s : State) : State :=
  { s with
    sem := s.sem.set s.bps.semSelect.val false s.bps.semSelect.isLt
    bps := { s.bps with semBit := false } }

/-! Results of vector instructions (R129, R290, R291). -/

/-- A vector instruction whose destination is also a source stops only under `V_SRC_EQ_DST` = `refuse` (R131, R291, D12; log 27). -/
def guardOverlap (overlap : Bool) (s : State) (r : Result) : Result :=
  if overlap && decide (s.params.vSrcEqDst = .refuse) then .refused .vectorOverlap else r

/-- `for e: V[i][e] <- f e`, one parcel (R290). -/
def vectorResult (i : Reg) (f : Elem → Word) (s : State) : Result :=
  .next ((s.writeElems i s.vlen f).advance 1)

/-- `for e: (r, err) <- f e; V[i][e] <- r; if err then raise FPError`, one parcel (R290, R344). -/
def vectorFpResult (i : Reg) (f : Elem → Word × Bool) (s : State) : Result :=
  .next ((s.writeElems i s.vlen (fun e => (f e).1)).completeFp (s.elements.any (fun e => (f e).2)))

/-- `(r, err) <- f; S[i] <- r; if err then raise FPError`, one parcel (R280). -/
def scalarFpResult (i : Reg) (r : Word × Bool) (s : State) : Result := .next ((s.setS i r.1).completeFp r.2)

/-- `A[i] <- v` by an instruction of `len` parcels. -/
def resultA (i : Reg) (v : Addr) (len : Nat) (s : State) : Result := .next ((s.setA i v).advance len)

/-- `S[i] <- v` by an instruction of `len` parcels. -/
def resultS (i : Reg) (v : Word) (len : Nat) (s : State) : Result := .next ((s.setS i v).advance len)

end Sys2Proof.Machine
end

