-- ==== Sys2Proof/Machine/Flags.lean ====
section
/-! DEFINITION. The tests of the branches and of the mask instructions. The machine has no condition codes (R35); the only bits computed from data are the vector mask (R36, R207). -/

namespace Sys2Proof.Machine

/-- `zero(x)` (R124). -/
def testZero {n : Nat} (x : BitVec n) : Bool := decide (x = 0)

/-- `nonzero(x)` (R124). -/
def testNonzero {n : Nat} (x : BitVec n) : Bool := decide (x ≠ 0)

/-- `positive(x)`: the sign bit is 0, so zero is positive (R124, D2; log 10). -/
def testPositive {n : Nat} (x : BitVec n) : Bool := !x.msb

/-- `negative(x)`: the sign bit is 1 (R124, D2; log 10). -/
def testNegative {n : Nat} (x : BitVec n) : Bool := x.msb

/-- The mask whose bit 63 - e says whether element e of the first `n` meets a test (R130, R207). -/
def maskWhere (n : Nat) (test : Elem → Bool) : Word :=
  (List.finRange 64).foldl
    (fun m e => if decide (e.val < n) && test e then m ||| BitVec.twoPow 64 (63 - e.val) else m) 0

/-- `VM[63-e]` (R9, R36). -/
def State.maskBit (s : State) (e : Elem) : Bool := s.vm.getLsbD (63 - e.val)

/-- `VM <- 0; for e in 0 .. n-1: if test(V[k][e]) then VM[63-e] <- 1`, one parcel (R207). -/
def maskResult (k : Reg) (test : Word → Bool) (s : State) : Result :=
  .next ((s.setVm (maskWhere s.vlen (fun e => test (s.V k e)))).advance 1)

end Sys2Proof.Machine
end

