-- ==== Sys2Proof/Machine/Operands.lean ====
section
/-! DEFINITION. The operand forms: immediates (R96), effective addresses (R64) and vector streams (R129, R131). -/

namespace Sys2Proof.Machine

/-! Immediates (R96). The forms with upper ones do not sign-extend. -/

/-- 026: `zext_32(jk)` (R186). -/
def shortConst (jk : BitVec 6) : Addr := (0 : BitVec 26) ++ jk

/-- 027: `jk` with the upper 26 bits ones (R187). -/
def shortNegConst (jk : BitVec 6) : Addr := BitVec.allOnes 26 ++ jk

/-- 040: `zext_32(m1)` (R199). -/
def parcelConst (m : Parcel) : Addr := (0 : BitVec 16) ++ m

/-- 041: m1 with the upper 16 bits ones (R200). -/
def parcelNegConst (m : Parcel) : Addr := BitVec.allOnes 16 ++ m

/-- 116: `zext_64(jk)` (R266). -/
def shortConstS (jk : BitVec 6) : Word := (0 : BitVec 58) ++ jk

/-- 117: `jk` with the upper 58 bits ones (R267). -/
def shortNegConstS (jk : BitVec 6) : Word := BitVec.allOnes 58 ++ jk

/-- 050: `zext_64(m1:m2)` (R210). -/
def halfConstS (c : BitVec 32) : Word := (0 : BitVec 32) ++ c

/-- 051: m1:m2 with the upper 32 bits ones (R211). -/
def halfNegConstS (c : BitVec 32) : Word := BitVec.allOnes 32 ++ c

/-- 052: m1:m2 in bits 63 to 32, zeros below (R212). -/
def leftConstS (c : BitVec 32) : Word := c ++ (0 : BitVec 32)

/-! Width changes between the register files (R123). -/

/-- The low-order 32 bits of a word. -/
def low32 (w : Word) : Addr := w.extractLsb' 0 32

/-- `zext_64` of an A register's contents. -/
def zext64 (a : Addr) : Word := a.zeroExtend 64

/-- `sext_64` of an A register's contents. -/
def sext64 (a : Addr) : Word := a.signExtend 64

/-! Effective addresses of Common Memory, relative to BA, modulo 2^32 (R64). -/

/-- `(aj,ak)`: `A[j] + A[k]`. -/
def State.sumAddr (s : State) (j k : Reg) : Addr := s.A j + s.A k

/-- `(ak)`: `A[k]`. -/
def State.regAddr (s : State) (k : Reg) : Addr := s.A k

/-- `(ak,exp)`: `A[k] + m1:m2`. -/
def State.dispAddr (s : State) (k : Reg) (c : BitVec 32) : Addr := s.A k + c

/-- Element e of a strided reference: `A[j] + e * A[k]`. -/
def State.strideAddr (s : State) (j k : Reg) (e : Elem) : Addr := s.A j + BitVec.ofNat 32 e.val * s.A k

/-! Vector streams (R129, R131, R291). -/

/-- What the stream of `V[n]` supplies for element e to an instruction whose destination is `V[i]`: its element, and where the two are one register what `V_SRC_EQ_DST` says (log 27). -/
def State.stream (s : State) (i n : Reg) (e : Elem) : Word :=
  if n = i then
    match s.params.vSrcEqDst with
    | .refuse => s.V n e
    | .zeros => 0
    | .old => s.V n e
    | .anyValue => Config.overlapSource s.draws e.val
  else s.V n e

/-- Element e of an indexed reference: `A[k]` plus the low-order 32 bits of element e of a stream (R64, R228). -/
def State.indexAddr (s : State) (k : Reg) (offsets : Elem → Word) (e : Elem) : Addr := s.A k + low32 (offsets e)

/-- The element after e, and zero after the last of `n` (R305). -/
def streamAfter (n : Nat) (f : Elem → Word) (e : Elem) : Word :=
  if h : e.val + 1 < 64 then (if e.val + 1 < n then f ⟨e.val + 1, h⟩ else 0) else 0

/-- The element before e, and zero before the first (R306). -/
def streamBefore (f : Elem → Word) (e : Elem) : Word :=
  if 0 < e.val then f ⟨e.val - 1, by omega⟩ else 0

end Sys2Proof.Machine
end

