-- ==== Sys2Proof/Machine/Address.lean ====
section
/-! DEFINITION. The meanings of 020 to 047: A registers, vector mask tests, halt enables, vector length, A registers with Local Memory (spec/42_address_vm_vl_020-047.md). -/

namespace Sys2Proof.Machine

/-! A-register arithmetic, modulo 2^32 (R120). -/

/-- 020 `ai aj+ak` (R180). -/
def execAddA (i j k : Reg) (s : State) : Result := resultA i (s.A j + s.A k) 1 s

/-- 021 `ai aj-ak` (R181). -/
def execSubA (i j k : Reg) (s : State) : Result := resultA i (s.A j - s.A k) 1 s

/-- 022 `ai aj*ak` (R182). -/
def execMulA (i j k : Reg) (s : State) : Result := resultA i (s.A j * s.A k) 1 s

/-- 023, the same as 022 (R183). -/
def execMulA023 (i j k : Reg) (s : State) : Result := resultA i (s.A j * s.A k) 1 s

/-! Transfers into A registers. -/

/-- 024 `ai sj`: `S[j][31:0]` (R184). -/
def execMoveSA (i j : Reg) (s : State) : Result := resultA i (low32 (s.S j)) 1 s

/-- 025 `ai vl`: `zext_32(VL)`, the register and not the length in force (R185). -/
def execMoveVlA (i : Reg) (s : State) : Result := resultA i ((0 : BitVec 26) ++ s.vl) 1 s

/-- 026 `ai exp` (R186). -/
def execShortA (i : Reg) (jk : BitVec 6) (s : State) : Result := resultA i (shortConst jk) 1 s

/-- 027 `ai exp` (R187). -/
def execShortNegA (i : Reg) (jk : BitVec 6) (s : State) : Result := resultA i (shortNegConst jk) 1 s

/-! Vector mask (R207). -/

/-- 030 `vm vk,z` (R188). -/
def execVmZero (k : Reg) (s : State) : Result := maskResult k testZero s

/-- 031 `vm vk,n` (R189). -/
def execVmNonzero (k : Reg) (s : State) : Result := maskResult k testNonzero s

/-- 032 `vm vk,p` (R190). -/
def execVmPositive (k : Reg) (s : State) : Result := maskResult k testPositive s

/-- 033 `vm vk,m` (R191). -/
def execVmNegative (k : Reg) (s : State) : Result := maskResult k testNegative s

/-- 034 `vm sj`: all 64 bits (R192). -/
def execMoveSVm (j : Reg) (s : State) : Result := .next ((s.setVm (s.S j)).advance 1)

/-! Halt enables: they act on errors that occur after them (R194, D29). -/

/-- 035 with k = 0, `dri` (R193). -/
def execDri (s : State) : Result := .next ((s.setBps { s.bps with rangeHaltEnable := false }).advance 1)

/-- 035 with k = 1, `eri` (R194). -/
def execEri (s : State) : Result := .next ((s.setBps { s.bps with rangeHaltEnable := true }).advance 1)

/-- 035 with k = 2, `dfi` (R195). -/
def execDfi (s : State) : Result := .next ((s.setBps { s.bps with fpEnable := false }).advance 1)

/-- 035 with k = 3, `efi` (R196). -/
def execEfi (s : State) : Result := .next ((s.setBps { s.bps with fpEnable := true }).advance 1)

/-- 035 with k = 4 to 7: not described; the spec gives it no meaning (R208, R98, D10). -/
def execSub035 (_n : Fin 4) (_s : State) : Result := .refused .undescribedSubcode

/-! Vector length. -/

/-- 036 `vl ak`: `VL <- A[k][5:0]` (R197). -/
def execMoveAVl (k : Reg) (s : State) : Result := .next ((s.setVl ((s.A k).extractLsb' 0 6)).advance 1)

/-- 037, the same as 036 (R198). -/
def execMoveAVl037 (k : Reg) (s : State) : Result := .next ((s.setVl ((s.A k).extractLsb' 0 6)).advance 1)

/-! Constant entry into A registers. -/

/-- 040 `ai exp` (R199). -/
def execParcelA (i : Reg) (m : Parcel) (s : State) : Result := resultA i (parcelConst m) 2 s

/-- 041 `ai exp` (R200). -/
def execParcelNegA (i : Reg) (m : Parcel) (s : State) : Result := resultA i (parcelNegConst m) 2 s

/-- 042 `ai exp`: `m1:m2` (R201). -/
def execHalfA (i : Reg) (c : BitVec 32) (s : State) : Result := resultA i c 3 s

/-- 043, the same as 042 (R202). -/
def execHalfA043 (i : Reg) (c : BitVec 32) (s : State) : Result := resultA i c 3 s

/-! A registers and Local Memory (R65, R66). -/

/-- 044 `ai [exp]`: the low 32 bits of `LM[m1]` (R203). -/
def execLoadALm (i : Reg) (m : Parcel) (s : State) : Result :=
  withLm (parcelConst m) s fun n => (s.setA i (low32 (s.lm.read n))).advance 2

/-- 045 `[exp] ak`: `A[k]` sign-extended to `LM[m1]` (R204). -/
def execStoreALm (k : Reg) (m : Parcel) (s : State) : Result :=
  withLm (parcelConst m) s fun n => (s.lmWrite n (sext64 (s.A k))).advance 2

/-- 046 `ai [ak]` (R205). -/
def execLoadALmReg (i k : Reg) (s : State) : Result :=
  withLm (s.A k) s fun n => (s.setA i (low32 (s.lm.read n))).advance 1

/-- 047 `[ak] aj` (R206). -/
def execStoreALmReg (j k : Reg) (s : State) : Result :=
  withLm (s.A k) s fun n => (s.lmWrite n (sext64 (s.A j))).advance 1

end Sys2Proof.Machine
end

