-- ==== Sys2Proof/Machine/Control.lean ====
section
/-! DEFINITION. The meanings of 000 to 017: exit, memory hold, jumps, semaphore, branches (spec/41_control_000-017.md). -/

namespace Sys2Proof.Machine

/-! Exit and memory hold. -/

/-- 000 `exit exp`: `Exit(jk)` (R160). -/
def execExitExp (jk : BitVec 6) (s : State) : Result := .next (s.exitWith jk)

/-- 000 `err`: `Exit(0)` (R160). -/
def execErr (s : State) : Result := .next (s.exitWith 0)

/-- 000 `exit`: `Exit(1)` (R160). -/
def execExit (s : State) : Result := .next (s.exitWith 1)

/-- 001 `CMR`: every Common Memory reference completes before the next instruction (R161, R71 i, R73). -/
def execCmr (s : State) : Result := .next (s.quiesce.advance 1)

/-! Jumps. -/

/-- 002 `r,ai ak`: `t <- A[k]; A[i] <- p + 1; P <- t` (R162). -/
def execJumpLink (i k : Reg) (s : State) : Result := .next ((s.setA i (s.p + 1)).jump (s.A k))

/-- 002 `j ak`: the jump goes to the old A[k], which then holds the return address (R162). -/
def execJumpReg (k : Reg) (s : State) : Result := .next ((s.setA k (s.p + 1)).jump (s.A k))

/-- 003 `j exp`: `P <- m1:m2` (R163). -/
def execJump (c : BitVec 32) (s : State) : Result := .next (s.jump c)

/-! The semaphore. -/

/-- 004 `jcs exp`: the flag is tested and set in one action; branch if it was clear (R165, R75, D19). -/
def execJcs (c : BitVec 32) (s : State) : Result := .next (s.takeSem.branch (!s.semf) c)

/-- 005 `jss exp`: the flag is tested and set in one action; branch if it was set (R166, R75, D19). -/
def execJss (c : BitVec 32) (s : State) : Result := .next (s.takeSem.branch s.semf c)

/-- 006 `ssm`: the flag is set (R167). -/
def execSsm (s : State) : Result := .next (s.takeSem.advance 1)

/-- 007 `csm`: the writes issued so far complete, then the flag is cleared (R168, R71 ii, R74). -/
def execCsm (s : State) : Result := .next (s.land.dropSem.advance 1)

/-! Branches on an A register. -/

/-- 010 `jz ak,exp`: branch if `A[k]` is zero (R169). -/
def execJzA (k : Reg) (c : BitVec 32) (s : State) : Result := .next (s.branch (testZero (s.A k)) c)

/-- 011 `jn ak,exp`: branch if `A[k]` is nonzero (R170). -/
def execJnA (k : Reg) (c : BitVec 32) (s : State) : Result := .next (s.branch (testNonzero (s.A k)) c)

/-- 012 `jp ak,exp`: branch if `A[k]` is positive (R171). -/
def execJpA (k : Reg) (c : BitVec 32) (s : State) : Result := .next (s.branch (testPositive (s.A k)) c)

/-- 013 `jm ak,exp`: branch if `A[k]` is negative (R172). -/
def execJmA (k : Reg) (c : BitVec 32) (s : State) : Result := .next (s.branch (testNegative (s.A k)) c)

/-! Branches on an S register. -/

/-- 014 `jz sj,exp`: branch if `S[j]` is zero (R173). -/
def execJzS (j : Reg) (c : BitVec 32) (s : State) : Result := .next (s.branch (testZero (s.S j)) c)

/-- 015 `jn sj,exp`: branch if `S[j]` is nonzero (R174). -/
def execJnS (j : Reg) (c : BitVec 32) (s : State) : Result := .next (s.branch (testNonzero (s.S j)) c)

/-- 016 `jp sj,exp`: branch if `S[j]` is positive (R175). -/
def execJpS (j : Reg) (c : BitVec 32) (s : State) : Result := .next (s.branch (testPositive (s.S j)) c)

/-- 017 `jm sj,exp`: branch if `S[j]` is negative (R176). -/
def execJmS (j : Reg) (c : BitVec 32) (s : State) : Result := .next (s.branch (testNegative (s.S j)) c)

end Sys2Proof.Machine
end

