-- ==== Sys2Proof/Machine/EntryMemory.lean ====
section
/-! DEFINITION. The meanings of 050 to 077: constant entry into S registers, S and V registers with Local and Common Memory, pass (spec/43_sentry_memory_050-077.md). -/

namespace Sys2Proof.Machine

/-! Constant entry into S registers. -/

/-- 050 `si exp` (R210). -/
def execHalfS (i : Reg) (c : BitVec 32) (s : State) : Result := resultS i (halfConstS c) 3 s

/-- 051 `si exp` (R211). -/
def execHalfNegS (i : Reg) (c : BitVec 32) (s : State) : Result := resultS i (halfNegConstS c) 3 s

/-- 052 `si exp,l` (R212). -/
def execLeftS (i : Reg) (c : BitVec 32) (s : State) : Result := resultS i (leftConstS c) 3 s

/-- 053 `si exp`: `m1:m2:m3:m4` (R213). -/
def execFullS (i : Reg) (d : BitVec 64) (s : State) : Result := resultS i d 5 s

/-! S registers and Local Memory (R65, R66). -/

/-- 054 `si [exp]` (R214). -/
def execLoadSLm (i : Reg) (m : Parcel) (s : State) : Result :=
  withLm (parcelConst m) s fun n => (s.setS i (s.lm.read n)).advance 2

/-- 055 `[exp] sj` (R215). -/
def execStoreSLm (j : Reg) (m : Parcel) (s : State) : Result :=
  withLm (parcelConst m) s fun n => (s.lmWrite n (s.S j)).advance 2

/-- 056 `si [ak]` (R216). -/
def execLoadSLmReg (i k : Reg) (s : State) : Result :=
  withLm (s.A k) s fun n => (s.setS i (s.lm.read n)).advance 1

/-- 057 `[ak] si` (R217). -/
def execStoreSLmReg (i k : Reg) (s : State) : Result :=
  withLm (s.A k) s fun n => (s.lmWrite n (s.S i)).advance 1

/-! S registers and Common Memory (R60 to R64). -/

/-- 060 `si (aj,ak)` (R218). -/
def execLoadSSum (i j k : Reg) (s : State) : Result := loadWord i (s.sumAddr j k) 1 s

/-- 061 `(aj,ak) si` (R219). -/
def execStoreSSum (i j k : Reg) (s : State) : Result := writeWord (s.sumAddr j k) (s.S i) 1 s

/-- 062 `si (ak)` (R220). -/
def execLoadSReg (i k : Reg) (s : State) : Result := loadWord i (s.regAddr k) 1 s

/-- 063 `(ak) si` (R221). -/
def execStoreSReg (i k : Reg) (s : State) : Result := writeWord (s.regAddr k) (s.S i) 1 s

/-- 064 `si (ak,exp)` (R222). -/
def execLoadSDisp (i k : Reg) (c : BitVec 32) (s : State) : Result := loadWord i (s.dispAddr k c) 3 s

/-- 065 `(ak,exp) si` (R223). -/
def execStoreSDisp (i k : Reg) (c : BitVec 32) (s : State) : Result := writeWord (s.dispAddr k c) (s.S i) 3 s

/-- 066 `si (exp)` (R224). -/
def execLoadSAbs (i : Reg) (c : BitVec 32) (s : State) : Result := loadWord i c 3 s

/-- 067 `(exp) si` (R225). -/
def execStoreSAbs (i : Reg) (c : BitVec 32) (s : State) : Result := writeWord c (s.S i) 3 s

/-! V registers and Common Memory (R234). -/

/-- 070 `vi (aj,ak)` (R226). -/
def execLoadVStride (i j k : Reg) (s : State) : Result := loadElems i (s.strideAddr j k) s

/-- 071 `(aj,ak) vi` (R227). -/
def execStoreVStride (i j k : Reg) (s : State) : Result := writeElemsCm (s.strideAddr j k) (s.V i) s

/-- 072 `vi (ak,vj)`, gather (R228, R76). -/
def execGather (i j k : Reg) (s : State) : Result :=
  guardOverlap (decide (i = j)) s (loadElems i (s.indexAddr k (s.stream i j)) s)

/-- 073 `(ak,vj) vi`, scatter: both vectors are sources (R229). -/
def execScatter (i j k : Reg) (s : State) : Result := writeElemsCm (s.indexAddr k (s.V j)) (s.V i) s

/-! V registers and Local Memory (R67). -/

/-- 074 `vi [ak]` (R230). -/
def execLoadVLm (i k : Reg) (s : State) : Result :=
  if s.lmBad (s.A k) then .fault .localMemoryAddress
  else vectorResult i (fun e => s.lm.read (s.lmPlace (s.A k) e)) s

/-- 075 `[ak] vi` (R231). -/
def execStoreVLm (i k : Reg) (s : State) : Result :=
  if s.lmBad (s.A k) then .fault .localMemoryAddress
  else .next ((s.lmWriteElems (s.A k) (s.V i)).advance 1)

/-! Pass. -/

/-- 076 `pass` (R232). -/
def execPass (s : State) : Result := .next (s.advance 1)

/-- 077, the same as 076 (R233). -/
def execPass077 (s : State) : Result := .next (s.advance 1)

end Sys2Proof.Machine
end

