-- ==== Sys2Proof/Machine/Float.lean ====
section
/-! DEFINITION. Floating-point arithmetic (R132 to R149). Each operation gives a word and whether it is a floating-point range error. Where the description fixes the result it is computed exactly over naturals and integers; where it leaves bits open they are the free values of Config (R137, D16; log 32 to log 40). -/

namespace Sys2Proof.Machine

/-! The format (R132, R133). -/

/-- Bit 63, the sign of the coefficient. -/
def fpSign (x : Word) : Bool := x.getLsbD 63

/-- The exponent field, bits 62 to 48, biased by 0o40000. -/
def fpExp (x : Word) : Nat := (x.extractLsb' 48 15).toNat

/-- The coefficient, bits 47 to 0. -/
def fpCoef (x : Word) : Nat := (x.extractLsb' 0 48).toNat

/-- A word from its sign, exponent field and coefficient. -/
def fpPack (s : Bool) (e c : Nat) : Word :=
  ((BitVec.ofBool s) ++ (BitVec.ofNat 15 e) ++ (BitVec.ofNat 48 c) : BitVec 64)

/-- Class `overflow` (R133). -/
def fpOverflow (x : Word) : Bool := decide (0o60000 ≤ fpExp x)

/-- Class `underflow`, which counts as zero (R133). -/
def fpUnderflow (x : Word) : Bool := decide (fpExp x < 0o20000)

/-- A coefficient with its top bit 1 (R134). -/
def fpNormal (x : Word) : Bool := x.getLsbD 47

/-- A word whose exponent is forced to a signature, its other 49 bits free (R136; log 32). -/
def fpForced (op : FpOp) (signature : Nat) (x y : Word) : Word :=
  let r := Config.forcedRest op x y
  ((r.extractLsb' 48 1) ++ (BitVec.ofNat 15 signature) ++ (r.extractLsb' 0 48) : BitVec 64)

/-! Rounding a magnitude to 48 bits (R137). -/

/-- The number of bits of a natural number. -/
def bitLength (n : Nat) : Nat := if n = 0 then 0 else Nat.log2 n + 1

/-- The 48-bit coefficient of a nonzero magnitude and how many places the binary point moved left: exact where it can be, else one of the two bracketing coefficients (R137; log 33). -/
def fpRound (up : Bool) (n : Nat) : Nat × Int :=
  let l := bitLength n
  if l ≤ 48 then (n <<< (48 - l), (l : Int) - 48)
  else
    let q := n >>> (l - 48)
    if q <<< (l - 48) = n ∨ up = false then (q, (l : Int) - 48)
    else if q + 1 = 2 ^ 48 then (2 ^ 47, (l : Int) - 47)
    else (q + 1, (l : Int) - 48)

/-! Add and subtract (R138, R139). -/

/-- The coefficient with its sign; zero in class `underflow` (R133). -/
def fpSigned (x : Word) : Int :=
  if fpUnderflow x then 0 else if fpSign x then -(fpCoef x : Int) else (fpCoef x : Int)

/-- The exponent to which both operands of a sum are matched: the smaller one of those in range. -/
def fpCommonExp (x y : Word) : Nat :=
  if fpUnderflow x then fpExp y else if fpUnderflow y then fpExp x else min (fpExp x) (fpExp y)

/-- The exact sum of the operands in units of the last place of `fpCommonExp`. -/
def fpExactSum (x y : Word) : Int :=
  fpSigned x * 2 ^ (fpExp x - fpCommonExp x y) + fpSigned y * 2 ^ (fpExp y - fpCommonExp x y)

/-- The normalised word for a nonzero sum of `n` units at exponent `e`, with the two range corners R138 leaves open (log 33, log 34). -/
def fpDeliverSum (x y : Word) (n : Int) (e : Nat) : Word × Bool :=
  let r := fpRound (Config.roundsUp .add x y) n.natAbs
  let e' : Int := (e : Int) + r.2
  if e' > 0o57777 then (fpForced .add 0o60000 x y, Config.addOverflowSignals x y)
  else if e' < 0o20000 ∧ Config.addTinyIsZero x y = true then (0, false)
  else (fpPack (decide (n < 0)) e'.toNat r.1, false)

/-- `FAdd(x, y)` (R138). -/
def fadd (x y : Word) : Word × Bool :=
  if fpOverflow x || fpOverflow y then (fpForced .add 0o60000 x y, true)
  else if fpExactSum x y = 0 then (0, false)
  else fpDeliverSum x y (fpExactSum x y) (fpCommonExp x y)

/-- A word with bit 63 inverted (R139). -/
def fpNegate (x : Word) : Word := x ^^^ BitVec.twoPow 64 63

/-- `FSub(x, y) = FAdd(x, y')` with the sign of y inverted (R139). -/
def fsub (x y : Word) : Word × Bool := fadd x (fpNegate y)

/-! Conversions (R140, R141). -/

/-- The exponent field at which a coefficient is an integer: the bias plus 48 (R134). -/
def integerExp : Nat := 0o40060

/-- The integer magnitude below the value of x, and whether the value is that integer. -/
def fixMagnitude (x : Word) : Nat × Bool :=
  if integerExp ≤ fpExp x then (fpCoef x <<< (fpExp x - integerExp), true)
  else
    let d := integerExp - fpExp x
    let q := fpCoef x >>> d
    (q, decide (q <<< d = fpCoef x))

/-- `Fix(x)` (R140). -/
def fix (x : Word) : Word × Bool :=
  if fpOverflow x then (0, true)
  else if fpUnderflow x then (0, false)
  else
    let m := fixMagnitude x
    if 2 ^ 48 ≤ m.1 then (0, true)
    else if 2 ^ 47 ≤ m.1 then Config.fixWide x
    else
      let q := if m.2 || !Config.fixRoundsUp x then m.1 else m.1 + 1
      (BitVec.ofInt 64 (if fpSign x then -(q : Int) else (q : Int)), false)

/-- The integer `Flt` converts: x where it is a sign-extended 48-bit integer, else a reading of `x[47:0]` alone (R141; log 36). -/
def fltInteger (x : Word) : Int :=
  let l : BitVec 48 := x.extractLsb' 0 48
  if l.signExtend 64 = x then l.toInt
  else if Config.fltReadsUnsigned l then (l.toNat : Int)
  else l.toInt

/-- `Flt(x)`: exact, and never an error (R141). -/
def flt (x : Word) : Word × Bool :=
  let n := fltInteger x
  if n = 0 then (0, false)
  else
    let r := fpRound false n.natAbs
    (fpPack (decide (n < 0)) ((integerExp : Int) + r.2).toNat r.1, false)

/-! Multiply (R142, R143, R148). -/

/-- The sum of the exponent fields. -/
def mulExps (x y : Word) : Nat := fpExp x + fpExp y

/-- The 96-bit product of the coefficients. -/
def mulCoefs (x y : Word) : Nat := fpCoef x * fpCoef y

/-- The exclusive or of the operand signs. -/
def mulSign (x y : Word) : Bool := xor (fpSign x) (fpSign y)

/-- Case 4: sign 0, exponent 0, the upper 48 bits of the product (R142, R143). -/
def mulInteger (x y : Word) : Word :=
  let p := mulCoefs x y
  let q := p >>> 48
  fpPack false 0 (if q <<< 48 = p ∨ Config.roundsUp .mul x y = false then q else q + 1)

/-- Case 5 for normalised operands: normalised, exact where it can be, else one of the bracketing numbers (R142 5; log 33). Rounding up past the last coefficient of the last exponent is an overflow (R345). -/
def mulNormal (x y : Word) : Word × Bool :=
  let r := fpRound (Config.roundsUp .mul x y) (mulCoefs x y)
  let e : Int := (mulExps x y : Int) - 0o40000 - 48 + r.2
  if e > 0o57777 then (fpForced .mul 0o60001 x y, true) else (fpPack (mulSign x y) e.toNat r.1, false)

/-- Case 5 for operands not both normalised: the sign is fixed, and so is the value where it can be exact; the place of the point and an inexact coefficient are free (R135, R142 5; log 37). -/
def mulUnnormal (x y : Word) : Word :=
  let p := mulCoefs x y
  let e := mulExps x y - 0o40000
  let sign := BitVec.ofBool (mulSign x y)
  if p = 0 then
    if Config.mulZeroWord x y then 0 else (sign ++ Config.mulZeroExponent x y ++ (0 : BitVec 48) : BitVec 64)
  else
    let most := 96 - bitLength p
    let shifts := (List.range (most + 1)).filter (fun t => decide ((p <<< t) % 2 ^ 48 = 0))
    match shifts with
    | [] => (sign ++ Config.mulUnnormalised x y : BitVec 64)
    | t :: ts =>
      let t' := (t :: ts).getD (Config.mulShift x y % (ts.length + 1)) t
      fpPack (mulSign x y) (e - t') ((p <<< t') >>> 48)

/-- Case 5 (R142). -/
def mulProduct (x y : Word) : Word × Bool :=
  if fpNormal x && fpNormal y then mulNormal x y else (mulUnnormal x y, false)

/-- Whether the two readings of the range tests, before and after the one-place shift, differ at an exponent sum: the product of the coefficients is below 2^95 (R142; log 37). -/
def mulShifts (x y : Word) : Bool := decide (mulCoefs x y < 2 ^ 95)

/-- `FMul(x, y)` (R142), with the open readings at the edges of the range (log 37). -/
def fmul (x y : Word) : Word × Bool :=
  if fpOverflow x || fpOverflow y then (fpForced .mul 0o60001 x y, true)
  else if fpExp x = 0 ∧ fpExp y = 0 then (mulInteger x y, false)
  else if 0o120000 < mulExps x y then (fpForced .mul 0o60001 x y, true)
  else if mulExps x y = 0o120000 then
    if mulShifts x y = true ∧ Config.mulTestsAfterShift x y = true then mulProduct x y
    else (fpForced .mul 0o60001 x y, true)
  else if mulExps x y < 0o60000 then (0, false)
  else if (fpUnderflow x || fpUnderflow y) = true ∧ Config.mulSmallIsZero x y = true then (0, false)
  else if mulExps x y = 0o60000 ∧ mulShifts x y = true ∧ Config.mulTestsAfterShift x y = true then (0, false)
  else mulProduct x y

/-! Approximations and iterations (R144 to R147). -/

/-- `RecipApprox(x)` (R144). -/
def recipApprox (x : Word) : Word × Bool :=
  if fpOverflow x || fpUnderflow x then (fpForced .recip 0o60002 x 0, true) else (Config.recipApprox x, false)

/-- `RecipIter(x, y)`: its bits are a parameter (R145; log 40). -/
def recipIter (x y : Word) : Word × Bool := Config.recipIter x y

/-- `RsqrtApprox(x)`: the special cases in the listed order (R146, R149). -/
def rsqrtApprox (x : Word) : Word × Bool :=
  if fpOverflow x then (fpForced .rsqrt 0o60004 x 0, true)
  else if fpExp x ≤ 3 then (fpForced .rsqrt 0o60004 x 0, false)
  else if fpSign x then (fpForced .rsqrt 0o60004 x 0, true)
  else if fpUnderflow x then Config.rsqrtSmall x
  else (Config.rsqrtApprox x, false)

/-- `RsqrtIter(x, y)`: its bits are a parameter (R147; log 40). -/
def rsqrtIter (x y : Word) : Word × Bool := Config.rsqrtIter x y

end Sys2Proof.Machine
end

