-- ==== Sys2Proof/Machine/Integer.lean ====
section
/-! DEFINITION. Counts, shifts and the iota values (R126 to R128, R329). Sums, differences and products are those of bit vectors, which wrap (R120). -/

namespace Sys2Proof.Machine

/-- `popcount(x)`: the number of 1 bits among the low `n` bits. -/
def onesBelow (x : Word) : Nat → Nat
  | 0 => 0
  | n + 1 => onesBelow x n + (if x.getLsbD n then 1 else 0)

/-- `popcount(x)` (R126). -/
def popcount (x : Word) : Nat := onesBelow x 64

/-- The number of 0 bits from bit n - 1 downward before the first 1 bit. -/
def zerosFrom (x : Word) : Nat → Nat
  | 0 => 0
  | n + 1 => if x.getLsbD n then 0 else zerosFrom x n + 1

/-- `lzc_64(x)`: 0 to 64 (R126). -/
def leadingZeros (x : Word) : Nat := zerosFrom x 64

/-- `zext_64(popcount(x))` (R256). -/
def popWord (x : Word) : Word := BitVec.ofNat 64 (popcount x)

/-- `zext_64(popcount(x) mod 2)` (R257). -/
def parityWord (x : Word) : Word := BitVec.ofNat 64 (popcount x % 2)

/-- `zext_64(lzc_64(x))` (R259). -/
def lzWord (x : Word) : Word := BitVec.ofNat 64 (leadingZeros x)

/-- `shl_64(x, n)`: zero for n of 64 or more (R127). -/
def shl64 (x : Word) (n : Nat) : Word := if n < 64 then x <<< n else 0

/-- `shr_64(x, n)`: zero for n of 64 or more (R127). -/
def shr64 (x : Word) (n : Nat) : Word := if n < 64 then x >>> n else 0

/-- `dshl(hi, lo, n)`: the upper word of `hi:lo` shifted left; zero for n of 128 or more (R128). -/
def dshl (hi lo : Word) (n : Nat) : Word :=
  if n < 128 then ((hi ++ lo : BitVec 128) <<< n).extractLsb' 64 64 else 0

/-- `dshr(hi, lo, n)`: the lower word of `hi:lo` shifted right; zero for n of 128 or more (R128). -/
def dshr (hi lo : Word) (n : Nat) : Word :=
  if n < 128 then ((hi ++ lo : BitVec 128) >>> n).extractLsb' 0 64 else 0

/-- `Iota(p, d)` under one reading of `IOTA_ACC` (R329). -/
def iotaBy (acc : IotaAcc) (p : Nat) (d : Addr) : Word :=
  match acc with
  | .acc32Zext => (BitVec.ofNat 32 p * d).zeroExtend 64
  | .acc64Zext => BitVec.ofNat 64 p * d.zeroExtend 64
  | .acc64Sext => BitVec.ofNat 64 p * d.signExtend 64

/-- `Iota(p, d)`: `p * d` where the readings agree, that is where 63 * d is below 2^32; elsewhere by the machine's `IOTA_ACC` (R329, D17; log 41). -/
def iotaValue (p : Nat) (d : Addr) : Word :=
  if d.toNat < 2 ^ 31 ∧ 63 * d.toNat < 2 ^ 32 then BitVec.ofNat 64 (p * d.toNat) else iotaBy Config.iotaAcc p d

/-- The positions, counted from the high-order bit, of the 1 bits of a mask, in order (R329). -/
def maskPositions (m : Word) : List Nat := ((List.finRange 64).filter (fun p => m.getLsbD (63 - p.val))).map (·.val)

end Sys2Proof.Machine
end

