-- ==== Sys2Proof/Machine/Scalar.lean ====
section
/-! DEFINITION. The meanings of 100 to 137: scalar logical, integer, counts, shifts, transfers, floating point, Shared registers (spec/44_scalar_100-137.md). -/

namespace Sys2Proof.Machine

/-! Logical and integer. -/

/-- 100 `si sj&sk` (R250). -/
def execAndS (i j k : Reg) (s : State) : Result := resultS i (s.S j &&& s.S k) 1 s

/-- 101 `si #sk&sj`: the operand in the k field is complemented (R251). -/
def execAndNotS (i j k : Reg) (s : State) : Result := resultS i (s.S j &&& ~~~(s.S k)) 1 s

/-- 102 `si sj\sk` (R252). -/
def execXorS (i j k : Reg) (s : State) : Result := resultS i (s.S j ^^^ s.S k) 1 s

/-- 103 `si sj!sk` (R253). -/
def execOrS (i j k : Reg) (s : State) : Result := resultS i (s.S j ||| s.S k) 1 s

/-- 103 with j = k, `si sj`: the logical sum of S[j] with itself (R253). -/
def execCopyS (i j : Reg) (s : State) : Result := resultS i (s.S j ||| s.S j) 1 s

/-- 104 `si sj+sk` (R254). -/
def execAddS (i j k : Reg) (s : State) : Result := resultS i (s.S j + s.S k) 1 s

/-- 105 `si sj-sk` (R255). -/
def execSubS (i j k : Reg) (s : State) : Result := resultS i (s.S j - s.S k) 1 s

/-! Counts. -/

/-- 106 with k = 0, `si psj` (R256). -/
def execPopS (i j : Reg) (s : State) : Result := resultS i (popWord (s.S j)) 1 s

/-- 106 with k = 1, `si qsj` (R257). -/
def execParityS (i j : Reg) (s : State) : Result := resultS i (parityWord (s.S j)) 1 s

/-- 106 with k = 2 or 3: not described; no meaning (R258, R98, D11). -/
def execSub106a (_i _j : Reg) (_n : Fin 2) (_s : State) : Result := .refused .undescribedSubcode

/-- 106 with k = 4 to 7: not described; no meaning (R258, R98, D11). -/
def execSub106b (_i _j : Reg) (_n : Fin 4) (_s : State) : Result := .refused .undescribedSubcode

/-- 107 `si zsj` (R259). -/
def execLzS (i j : Reg) (s : State) : Result := resultS i (lzWord (s.S j)) 1 s

/-! Shifts. -/

/-- 110 `si si<exp`: left by `64 - jk`, 1 to 64 (R260). -/
def execShlS (i : Reg) (jk : BitVec 6) (s : State) : Result := resultS i (shl64 (s.S i) (64 - jk.toNat)) 1 s

/-- 111 `si si>exp`: right by `jk`, 0 to 63 (R261). -/
def execShrS (i : Reg) (jk : BitVec 6) (s : State) : Result := resultS i (shr64 (s.S i) jk.toNat) 1 s

/-- 112 `si si,sj<ak` (R262). -/
def execDshlS (i j k : Reg) (s : State) : Result := resultS i (dshl (s.S i) (s.S j) (s.A k).toNat) 1 s

/-- 113 `si sj,si>ak` (R263). -/
def execDshrS (i j k : Reg) (s : State) : Result := resultS i (dshr (s.S j) (s.S i) (s.A k).toNat) 1 s

/-! Transfers. -/

/-- 114 `si vm` (R264). -/
def execMoveVmS (i : Reg) (s : State) : Result := resultS i s.vm 1 s

/-- A reading of the real-time clock: any value no less than the last one (R27, R356, D15; log 31). -/
def State.clockReading (s : State) : Word :=
  if s.rtc ≤ Config.rtcReading s.draws then Config.rtcReading s.draws else s.rtc

/-- 115 `si rt` (R265). -/
def execMoveRtS (i : Reg) (s : State) : Result := resultS i s.clockReading 1 (s.setRtc s.clockReading)

/-- 116 `si exp` (R266). -/
def execShortS (i : Reg) (jk : BitVec 6) (s : State) : Result := resultS i (shortConstS jk) 1 s

/-- 117 `si exp` (R267). -/
def execShortNegS (i : Reg) (jk : BitVec 6) (s : State) : Result := resultS i (shortNegConstS jk) 1 s

/-! Floating point (R280). -/

/-- 120 `si sj+fsk` (R268). -/
def execFaddS (i j k : Reg) (s : State) : Result := scalarFpResult i (fadd (s.S j) (s.S k)) s

/-- 121 `si sj-fsk` (R269). -/
def execFsubS (i j k : Reg) (s : State) : Result := scalarFpResult i (fsub (s.S j) (s.S k)) s

/-- 122 `si fix,sk` (R270). -/
def execFixS (i k : Reg) (s : State) : Result := scalarFpResult i (fix (s.S k)) s

/-- 123 `si flt,sk` (R271). -/
def execFltS (i k : Reg) (s : State) : Result := scalarFpResult i (flt (s.S k)) s

/-- 124 `si sj*fsk` (R272). -/
def execFmulS (i j k : Reg) (s : State) : Result := scalarFpResult i (fmul (s.S j) (s.S k)) s

/-- 125, the same as 124 (R273). -/
def execFmulS125 (i j k : Reg) (s : State) : Result := scalarFpResult i (fmul (s.S j) (s.S k)) s

/-- 126 `si sj*isk` (R274). -/
def execRecipIterS (i j k : Reg) (s : State) : Result := scalarFpResult i (recipIter (s.S j) (s.S k)) s

/-- 127 `si sj*qsk` (R275). -/
def execRsqrtIterS (i j k : Reg) (s : State) : Result := scalarFpResult i (rsqrtIter (s.S j) (s.S k)) s

/-- 130 `si ak`: zero-extended (R276). -/
def execMoveAS (i k : Reg) (s : State) : Result := resultS i (zext64 (s.A k)) 1 s

/-- 131 `si +ak`: sign-extended (R277). -/
def execMoveASigned (i k : Reg) (s : State) : Result := resultS i (sext64 (s.A k)) 1 s

/-- 132 `si /hsj` (R278). -/
def execRecipS (i j : Reg) (s : State) : Result := scalarFpResult i (recipApprox (s.S j)) s

/-- 133 `si *qsj` (R279). -/
def execRsqrtS (i j : Reg) (s : State) : Result := scalarFpResult i (rsqrtApprox (s.S j)) s

/-! Shared registers (R286). -/

/-- A Shared-register instruction: a pass where there are none; with them, j of 2 or more has no meaning (R286, D25; log 44). -/
def withShared (j : Reg) (s : State) (r : Result) : Result :=
  if s.params.hasSharedRegs then (if j.val < 2 then r else .refused .sharedRegisterNumber)
  else .next (s.advance 1)

/-- 134: pass, or `SR[j] <- A[k]` (R283). -/
def execSetShared (j k : Reg) (s : State) : Result := withShared j s (.next ((s.setSr j (s.A k)).advance 1))

/-- 135: pass on every machine (R284). -/
def execPass135 (s : State) : Result := .next (s.advance 1)

/-- 136: pass, or `A[i] <- SR[j]` (R285). -/
def execReadShared (i j : Reg) (s : State) : Result := withShared j s (resultA i (s.sr.get j) 1 s)

/-- 137: pass, or `t <- SR[j]; SR[j] <- t + 1; A[i] <- t` (R287, D25). -/
def execIncShared (i j : Reg) (s : State) : Result :=
  withShared j s (resultA i (s.sr.get j) 1 (s.setSr j (s.sr.get j + 1)))

end Sys2Proof.Machine
end

