-- ==== Sys2Proof/Machine/VectorOps.lean ====
section
/-! DEFINITION. The meanings of 140 to 177: vector logical, merge, shift, floating point, integer, counts, compressed iota (spec/45_vector_140-177.md). -/

namespace Sys2Proof.Machine

/-! The shapes of vector instructions (R290, R291). Each operand stream comes through `State.stream`, and the overlap of the destination with a vector source is guarded. -/

/-- A scalar and a vector source: `V[i][e] <- f S[j] V[k][e]`. -/
def scalarVector (i j k : Reg) (f : Word → Word → Word) (s : State) : Result :=
  guardOverlap (decide (i = k)) s (vectorResult i (fun e => f (s.S j) (s.stream i k e)) s)

/-- Two vector sources: `V[i][e] <- f V[j][e] V[k][e]`. -/
def vectorVector (i j k : Reg) (f : Word → Word → Word) (s : State) : Result :=
  guardOverlap (decide (i = j) || decide (i = k)) s
    (vectorResult i (fun e => f (s.stream i j e) (s.stream i k e)) s)

/-- One vector source: `V[i][e] <- f V[n][e]`. -/
def vectorUnary (i n : Reg) (f : Word → Word) (s : State) : Result :=
  guardOverlap (decide (i = n)) s (vectorResult i (fun e => f (s.stream i n e)) s)

/-- A scalar and a vector source of a floating-point function. -/
def scalarVectorFp (i j k : Reg) (f : Word → Word → Word × Bool) (s : State) : Result :=
  guardOverlap (decide (i = k)) s (vectorFpResult i (fun e => f (s.S j) (s.stream i k e)) s)

/-- Two vector sources of a floating-point function. -/
def vectorVectorFp (i j k : Reg) (f : Word → Word → Word × Bool) (s : State) : Result :=
  guardOverlap (decide (i = j) || decide (i = k)) s
    (vectorFpResult i (fun e => f (s.stream i j e) (s.stream i k e)) s)

/-- One vector source of a floating-point function. -/
def vectorUnaryFp (i n : Reg) (f : Word → Word × Bool) (s : State) : Result :=
  guardOverlap (decide (i = n)) s (vectorFpResult i (fun e => f (s.stream i n e)) s)

/-! Logical. -/

/-- 140 `vi sj&vk` (R293). -/
def execAndSV (i j k : Reg) (s : State) : Result := scalarVector i j k (· &&& ·) s

/-- 141 `vi vj&vk` (R294). -/
def execAndVV (i j k : Reg) (s : State) : Result := vectorVector i j k (· &&& ·) s

/-- 142 `vi sj\vk` (R295). -/
def execXorSV (i j k : Reg) (s : State) : Result := scalarVector i j k (· ^^^ ·) s

/-- 143 `vi vj\vk` (R296). -/
def execXorVV (i j k : Reg) (s : State) : Result := vectorVector i j k (· ^^^ ·) s

/-- 143iii `vi 0`: the elements in force are cleared (R297). -/
def execClearV (i : Reg) (s : State) : Result := vectorResult i (fun _ => 0) s

/-- 144 `vi sj!vk` (R298). -/
def execOrSV (i j k : Reg) (s : State) : Result := scalarVector i j k (· ||| ·) s

/-- 144iji `vi sj`: the scalar to every element in force (R299). -/
def execBroadcastV (i j : Reg) (s : State) : Result := vectorResult i (fun _ => s.S j) s

/-- 145 `vi vj!vk` (R300). -/
def execOrVV (i j k : Reg) (s : State) : Result := vectorVector i j k (· ||| ·) s

/-- 145ijj `vi vj`: the logical sum of V[j] with itself (R300). -/
def execCopyV (i j : Reg) (s : State) : Result := vectorUnary i j (fun x => x ||| x) s

/-! Merge under the mask. -/

/-- 146 `vi sj!vk&vm` (R301). -/
def execMergeSV (i j k : Reg) (s : State) : Result :=
  guardOverlap (decide (i = k)) s
    (vectorResult i (fun e => if s.maskBit e then s.S j else s.stream i k e) s)

/-- 147 `vi vj!vk&vm` (R302). -/
def execMergeVV (i j k : Reg) (s : State) : Result :=
  guardOverlap (decide (i = j) || decide (i = k)) s
    (vectorResult i (fun e => if s.maskBit e then s.stream i j e else s.stream i k e) s)

/-! Shifts: the count is `u(A[k])`, read once (R127, R128). -/

/-- 150 `vi vj<ak` (R303). -/
def execShlV (i j k : Reg) (s : State) : Result := vectorUnary i j (fun x => shl64 x (s.A k).toNat) s

/-- 151 `vi vj>ak` (R304). -/
def execShrV (i j k : Reg) (s : State) : Result := vectorUnary i j (fun x => shr64 x (s.A k).toNat) s

/-- 152 `vi vj,vj<ak`: with the following element, zero after the last (R305). -/
def execDshlV (i j k : Reg) (s : State) : Result :=
  guardOverlap (decide (i = j)) s
    (vectorResult i
      (fun e => dshl (s.stream i j e) (streamAfter s.vlen (s.stream i j) e) (s.A k).toNat) s)

/-- 153 `vi vj,vj>ak`: with the preceding element, zero before the first (R306). -/
def execDshrV (i j k : Reg) (s : State) : Result :=
  guardOverlap (decide (i = j)) s
    (vectorResult i (fun e => dshr (streamBefore (s.stream i j) e) (s.stream i j e) (s.A k).toNat) s)

/-! Floating-point multiply unit. -/

/-- 154 `vi sj*fvk` (R307). -/
def execFmulSV (i j k : Reg) (s : State) : Result := scalarVectorFp i j k fmul s

/-- 155 `vi vj*fvk` (R308). -/
def execFmulVV (i j k : Reg) (s : State) : Result := vectorVectorFp i j k fmul s

/-- 156 `vi vj*ivk` (R309). -/
def execRecipIterV (i j k : Reg) (s : State) : Result := vectorVectorFp i j k recipIter s

/-- 157 `vi vj*qvk` (R310). -/
def execRsqrtIterV (i j k : Reg) (s : State) : Result := vectorVectorFp i j k rsqrtIter s

/-! Integer, modulo 2^64 (R120). -/

/-- 160 `vi sj+vk` (R311). -/
def execAddSV (i j k : Reg) (s : State) : Result := scalarVector i j k (· + ·) s

/-- 161 `vi vj+vk` (R312). -/
def execAddVV (i j k : Reg) (s : State) : Result := vectorVector i j k (· + ·) s

/-- 162 `vi sj-vk` (R313). -/
def execSubSV (i j k : Reg) (s : State) : Result := scalarVector i j k (· - ·) s

/-- 163 `vi vj-vk` (R314). -/
def execSubVV (i j k : Reg) (s : State) : Result := vectorVector i j k (· - ·) s

/-- 163iik `vi -vk`: the old V[i] does not enter the result (R315). -/
def execNegV (i k : Reg) (s : State) : Result := vectorUnary i k (fun x => 0 - x) s

/-! Counts. -/

/-- 164 with k = 0, `vi pvj` (R316). -/
def execPopV (i j : Reg) (s : State) : Result := vectorUnary i j popWord s

/-- 164 with k = 1, `vi qvj` (R317). -/
def execParityV (i j : Reg) (s : State) : Result := vectorUnary i j parityWord s

/-- 164 with k = 2 or 3: not described; no meaning (R318, R98, D11). -/
def execSub164a (_i _j : Reg) (_n : Fin 2) (_s : State) : Result := .refused .undescribedSubcode

/-- 164 with k = 4 to 7: not described; no meaning (R318, R98, D11). -/
def execSub164b (_i _j : Reg) (_n : Fin 4) (_s : State) : Result := .refused .undescribedSubcode

/-- 165 `vi zvj` (R319). -/
def execLzV (i j : Reg) (s : State) : Result := vectorUnary i j lzWord s

/-! Approximations. -/

/-- 166 `vi /hvk` (R320). -/
def execRecipV (i k : Reg) (s : State) : Result := vectorUnaryFp i k recipApprox s

/-- 167 `vi *qvk` (R321). -/
def execRsqrtV (i k : Reg) (s : State) : Result := vectorUnaryFp i k rsqrtApprox s

/-! Floating-point add unit. -/

/-- 170 `vi sj+fvk` (R322). -/
def execFaddSV (i j k : Reg) (s : State) : Result := scalarVectorFp i j k fadd s

/-- 171 `vi vj+fvk` (R323). -/
def execFaddVV (i j k : Reg) (s : State) : Result := vectorVectorFp i j k fadd s

/-- 172 `vi sj-fvk` (R324). -/
def execFsubSV (i j k : Reg) (s : State) : Result := scalarVectorFp i j k fsub s

/-- 173 `vi vj-fvk` (R325). -/
def execFsubVV (i j k : Reg) (s : State) : Result := vectorVectorFp i j k fsub s

/-- 173iik `vi -fvk`: the minuend is the all-zero word (R326). -/
def execFnegV (i k : Reg) (s : State) : Result := vectorUnaryFp i k (fun x => fsub 0 x) s

/-- 174 `vi fix,vk` (R327). -/
def execFixV (i k : Reg) (s : State) : Result := vectorUnaryFp i k fix s

/-- 175 `vi flt,vk` (R328). -/
def execFltV (i k : Reg) (s : State) : Result := vectorUnaryFp i k flt s

/-! Compressed iota. -/

/-- `V[i][c] <- Iota(p, d)` for the positions p of the 1 bits of the mask, in order; the elements after them are unchanged, and VL is neither read nor written (R329, D17). -/
def iotaResult (i j k : Reg) (s : State) : Result :=
  let ps := maskPositions (s.S j)
  .next ((s.writeElems i ps.length (fun e => iotaValue (ps.getD e.val 0) (low32 (s.S k)))).advance 1)

/-- 176 `vi ci,sj&sk` (R329). -/
def execIota (i j k : Reg) (s : State) : Result := iotaResult i j k s

/-- 177, the same as 176 (R330). -/
def execIota177 (i j k : Reg) (s : State) : Result := iotaResult i j k s

end Sys2Proof.Machine
end

