-- ==== Sys2Proof/Syntax.lean ====
section
/-! DEFINITION. The instruction set as syntax: one constructor for each of the 147 rows of spec/opcode_table.json (R100). Designators keep their names i, j, k; `jk` is the 6-bit field of R91, `m` the constant parcel m1, `c` the 32-bit constant m1:m2, `d` the 64-bit constant m1:m2:m3:m4 (R95). A designator the format marks x is no argument (R92). -/

namespace Sys2Proof

/-- The Background Processor's instructions. The rows that are another spelling or a special form of a code (R99) and the undescribed sub-codes (R98) have constructors of their own. -/
inductive Instr where
  -- Control: exit, memory hold, jumps, semaphore, branches (R160 to R176).
  /-- 000: `exit exp`, exit to idle with code `jk` (`jk` neither 0 nor 1) (R160). -/
  | exitExp (jk : BitVec 6)
  /-- 000: `err`, exit to idle with code 0 (R160). -/
  | err
  /-- 000: `exit`, exit to idle with code 1 (R160). -/
  | exit
  /-- 001: `CMR`, hold issue until the Common Memory references are complete (R161). -/
  | cmr
  /-- 002: `r,ai ak`, jump to `A[k]`, return address to `A[i]` (`i` and `k` different) (R162). -/
  | jumpLink (i : Reg) (k : Reg)
  /-- 002: `j ak`, jump to the old `A[k]`, return address to `A[k]` (R162). -/
  | jumpReg (k : Reg)
  /-- 003: `j exp`, jump to a constant parcel address (R163). -/
  | jump (c : BitVec 32)
  /-- 004: `jcs exp`, jump if the semaphore was clear, and set it (R165). -/
  | jcs (c : BitVec 32)
  /-- 005: `jss exp`, jump if the semaphore was set, and set it (R166). -/
  | jss (c : BitVec 32)
  /-- 006: `ssm`, set the semaphore (R167). -/
  | ssm
  /-- 007: `csm`, clear the semaphore (R168). -/
  | csm
  /-- 010: `jz ak,exp`, branch if `A[k]` is zero (R169). -/
  | jzA (k : Reg) (c : BitVec 32)
  /-- 011: `jn ak,exp`, branch if `A[k]` is nonzero (R170). -/
  | jnA (k : Reg) (c : BitVec 32)
  /-- 012: `jp ak,exp`, branch if `A[k]` is positive (R171). -/
  | jpA (k : Reg) (c : BitVec 32)
  /-- 013: `jm ak,exp`, branch if `A[k]` is negative (R172). -/
  | jmA (k : Reg) (c : BitVec 32)
  /-- 014: `jz sj,exp`, branch if `S[j]` is zero (R173). -/
  | jzS (j : Reg) (c : BitVec 32)
  /-- 015: `jn sj,exp`, branch if `S[j]` is nonzero (R174). -/
  | jnS (j : Reg) (c : BitVec 32)
  /-- 016: `jp sj,exp`, branch if `S[j]` is positive (R175). -/
  | jpS (j : Reg) (c : BitVec 32)
  /-- 017: `jm sj,exp`, branch if `S[j]` is negative (R176). -/
  | jmS (j : Reg) (c : BitVec 32)
  -- A registers, vector mask tests, halt enables, vector length (R180 to R208).
  /-- 020: `ai aj+ak`, 32-bit sum (R180). -/
  | addA (i : Reg) (j : Reg) (k : Reg)
  /-- 021: `ai aj-ak`, 32-bit difference (R181). -/
  | subA (i : Reg) (j : Reg) (k : Reg)
  /-- 022: `ai aj*ak`, low 32 bits of the product (R182). -/
  | mulA (i : Reg) (j : Reg) (k : Reg)
  /-- 023: (no syntax) executes the same as 022 (R183). -/
  | mulA023 (i : Reg) (j : Reg) (k : Reg)
  /-- 024: `ai sj`, low 32 bits of `S[j]` (R184). -/
  | moveSA (i : Reg) (j : Reg)
  /-- 025: `ai vl`, VL to `A[i]` (R185). -/
  | moveVlA (i : Reg)
  /-- 026: `ai exp` (026), `jk` with the upper bits 0 (R186). -/
  | shortA (i : Reg) (jk : BitVec 6)
  /-- 027: `ai exp` (027), `jk` with the upper bits 1 (R187). -/
  | shortNegA (i : Reg) (jk : BitVec 6)
  /-- 030: `vm vk,z`, mask of the zero elements (R188). -/
  | vmZero (k : Reg)
  /-- 031: `vm vk,n`, mask of the nonzero elements (R189). -/
  | vmNonzero (k : Reg)
  /-- 032: `vm vk,p`, mask of the positive elements (R190). -/
  | vmPositive (k : Reg)
  /-- 033: `vm vk,m`, mask of the negative elements (R191). -/
  | vmNegative (k : Reg)
  /-- 034: `vm sj`, `S[j]` to VM (R192). -/
  | moveSVm (j : Reg)
  /-- 035: `dri`, disable halt on memory range error (R193). -/
  | dri
  /-- 035: `eri`, enable halt on memory range error (R194). -/
  | eri
  /-- 035: `dfi`, disable halt on floating-point error (R195). -/
  | dfi
  /-- 035: `efi`, enable halt on floating-point error (R196). -/
  | efi
  /-- 035: the undescribed sub-codes of 035, `k` = 4 + `n` (R208). -/
  | sub035 (n : Fin 4)
  /-- 036: `vl ak`, low 6 bits of `A[k]` to VL (R197). -/
  | moveAVl (k : Reg)
  /-- 037: (no syntax) executes the same as 036 (R198). -/
  | moveAVl037 (k : Reg)
  /-- 040: `ai exp` (040), `m1` with the upper 16 bits 0 (R199). -/
  | parcelA (i : Reg) (m : Parcel)
  /-- 041: `ai exp` (041), `m1` with the upper 16 bits 1 (R200). -/
  | parcelNegA (i : Reg) (m : Parcel)
  /-- 042: `ai exp` (042), a 32-bit constant (R201). -/
  | halfA (i : Reg) (c : BitVec 32)
  /-- 043: (no syntax) executes the same as 042 (R202). -/
  | halfA043 (i : Reg) (c : BitVec 32)
  /-- 044: `ai [exp]`, Local Memory read (R203). -/
  | loadALm (i : Reg) (m : Parcel)
  /-- 045: `[exp] ak`, Local Memory write (R204). -/
  | storeALm (k : Reg) (m : Parcel)
  /-- 046: `ai [ak]`, Local Memory read (R205). -/
  | loadALmReg (i : Reg) (k : Reg)
  /-- 047: `[ak] aj`, Local Memory write (R206). -/
  | storeALmReg (j : Reg) (k : Reg)
  -- Constant entry into S registers, memory, pass (R210 to R234).
  /-- 050: `si exp` (050), `m1:m2` with the upper 32 bits 0 (R210). -/
  | halfS (i : Reg) (c : BitVec 32)
  /-- 051: `si exp` (051), `m1:m2` with the upper 32 bits 1 (R211). -/
  | halfNegS (i : Reg) (c : BitVec 32)
  /-- 052: `si exp,l`, `m1:m2` in the upper half (R212). -/
  | leftS (i : Reg) (c : BitVec 32)
  /-- 053: `si exp` (053), a 64-bit constant (R213). -/
  | fullS (i : Reg) (d : BitVec 64)
  /-- 054: `si [exp]`, Local Memory read (R214). -/
  | loadSLm (i : Reg) (m : Parcel)
  /-- 055: `[exp] sj`, Local Memory write (R215). -/
  | storeSLm (j : Reg) (m : Parcel)
  /-- 056: `si [ak]`, Local Memory read (R216). -/
  | loadSLmReg (i : Reg) (k : Reg)
  /-- 057: `[ak] si`, Local Memory write (R217). -/
  | storeSLmReg (i : Reg) (k : Reg)
  /-- 060: `si (aj,ak)`, Common Memory read (R218). -/
  | loadSSum (i : Reg) (j : Reg) (k : Reg)
  /-- 061: `(aj,ak) si`, Common Memory write (R219). -/
  | storeSSum (i : Reg) (j : Reg) (k : Reg)
  /-- 062: `si (ak)`, Common Memory read (R220). -/
  | loadSReg (i : Reg) (k : Reg)
  /-- 063: `(ak) si`, Common Memory write (R221). -/
  | storeSReg (i : Reg) (k : Reg)
  /-- 064: `si (ak,exp)`, Common Memory read (R222). -/
  | loadSDisp (i : Reg) (k : Reg) (c : BitVec 32)
  /-- 065: `(ak,exp) si`, Common Memory write (R223). -/
  | storeSDisp (i : Reg) (k : Reg) (c : BitVec 32)
  /-- 066: `si (exp)`, Common Memory read (R224). -/
  | loadSAbs (i : Reg) (c : BitVec 32)
  /-- 067: `(exp) si`, Common Memory write (R225). -/
  | storeSAbs (i : Reg) (c : BitVec 32)
  /-- 070: `vi (aj,ak)`, strided vector read (R226). -/
  | loadVStride (i : Reg) (j : Reg) (k : Reg)
  /-- 071: `(aj,ak) vi`, strided vector write (R227). -/
  | storeVStride (i : Reg) (j : Reg) (k : Reg)
  /-- 072: `vi (ak,vj)`, gather (R228). -/
  | gather (i : Reg) (j : Reg) (k : Reg)
  /-- 073: `(ak,vj) vi`, scatter (R229). -/
  | scatter (i : Reg) (j : Reg) (k : Reg)
  /-- 074: `vi [ak]`, Local Memory vector read (R230). -/
  | loadVLm (i : Reg) (k : Reg)
  /-- 075: `[ak] vi`, Local Memory vector write (R231). -/
  | storeVLm (i : Reg) (k : Reg)
  /-- 076: `pass`, no operation (R232). -/
  | pass
  /-- 077: (no syntax) executes the same as 076 (R233). -/
  | pass077
  -- Scalar logical, integer, shift, transfer, floating point, Shared registers (R250 to R287).
  /-- 100: `si sj&sk`, logical product (R250). -/
  | andS (i : Reg) (j : Reg) (k : Reg)
  /-- 101: `si #sk&sj`, logical product with the complement of `S[k]` (R251). -/
  | andNotS (i : Reg) (j : Reg) (k : Reg)
  /-- 102: `si sj\sk`, logical difference (R252). -/
  | xorS (i : Reg) (j : Reg) (k : Reg)
  /-- 103: `si sj!sk`, logical sum (`j` and `k` different) (R253). -/
  | orS (i : Reg) (j : Reg) (k : Reg)
  /-- 103: `si sj`, the logical sum of `S[j]` with itself (R253). -/
  | copyS (i : Reg) (j : Reg)
  /-- 104: `si sj+sk`, 64-bit sum (R254). -/
  | addS (i : Reg) (j : Reg) (k : Reg)
  /-- 105: `si sj-sk`, 64-bit difference (R255). -/
  | subS (i : Reg) (j : Reg) (k : Reg)
  /-- 106: `si psj`, population count (R256). -/
  | popS (i : Reg) (j : Reg)
  /-- 106: `si qsj`, population count parity (R257). -/
  | parityS (i : Reg) (j : Reg)
  /-- 106: the undescribed sub-codes of 106, `k` = 2 + `n` (R258). -/
  | sub106a (i : Reg) (j : Reg) (n : Fin 2)
  /-- 106: the undescribed sub-codes of 106, `k` = 4 + `n` (R258). -/
  | sub106b (i : Reg) (j : Reg) (n : Fin 4)
  /-- 107: `si zsj`, leading-zero count (R259). -/
  | lzS (i : Reg) (j : Reg)
  /-- 110: `si si<exp`, shift left by 64 - `jk` (R260). -/
  | shlS (i : Reg) (jk : BitVec 6)
  /-- 111: `si si>exp`, shift right by `jk` (R261). -/
  | shrS (i : Reg) (jk : BitVec 6)
  /-- 112: `si si,sj<ak`, double shift left (R262). -/
  | dshlS (i : Reg) (j : Reg) (k : Reg)
  /-- 113: `si sj,si>ak`, double shift right (R263). -/
  | dshrS (i : Reg) (j : Reg) (k : Reg)
  /-- 114: `si vm`, VM to `S[i]` (R264). -/
  | moveVmS (i : Reg)
  /-- 115: `si rt`, the real-time clock to `S[i]` (R265). -/
  | moveRtS (i : Reg)
  /-- 116: `si exp` (116), `jk` with the upper bits 0 (R266). -/
  | shortS (i : Reg) (jk : BitVec 6)
  /-- 117: `si exp` (117), `jk` with the upper bits 1 (R267). -/
  | shortNegS (i : Reg) (jk : BitVec 6)
  /-- 120: `si sj+fsk`, floating-point sum (R268). -/
  | faddS (i : Reg) (j : Reg) (k : Reg)
  /-- 121: `si sj-fsk`, floating-point difference (R269). -/
  | fsubS (i : Reg) (j : Reg) (k : Reg)
  /-- 122: `si fix,sk`, floating point to integer (R270). -/
  | fixS (i : Reg) (k : Reg)
  /-- 123: `si flt,sk`, integer to floating point (R271). -/
  | fltS (i : Reg) (k : Reg)
  /-- 124: `si sj*fsk`, floating-point product (R272). -/
  | fmulS (i : Reg) (j : Reg) (k : Reg)
  /-- 125: (no syntax) executes the same as 124 (R273). -/
  | fmulS125 (i : Reg) (j : Reg) (k : Reg)
  /-- 126: `si sj*isk`, reciprocal iteration (R274). -/
  | recipIterS (i : Reg) (j : Reg) (k : Reg)
  /-- 127: `si sj*qsk`, reciprocal square root iteration (R275). -/
  | rsqrtIterS (i : Reg) (j : Reg) (k : Reg)
  /-- 130: `si ak`, `A[k]` zero-extended (R276). -/
  | moveAS (i : Reg) (k : Reg)
  /-- 131: `si +ak`, `A[k]` sign-extended (R277). -/
  | moveASigned (i : Reg) (k : Reg)
  /-- 132: `si /hsj`, reciprocal approximation (R278). -/
  | recipS (i : Reg) (j : Reg)
  /-- 133: `si *qsj`, reciprocal square root approximation (R279). -/
  | rsqrtS (i : Reg) (j : Reg)
  /-- 134: 134, pass, or on S/N 2025 set Shared register `j` from `A[k]` (R283). -/
  | setShared (j : Reg) (k : Reg)
  /-- 135: 135, pass on every machine (R284). -/
  | pass135
  /-- 136: 136, pass, or on S/N 2025 read Shared register `j` to `A[i]` (R285). -/
  | readShared (i : Reg) (j : Reg)
  /-- 137: 137, pass, or on S/N 2025 read and increment Shared register `j` to `A[i]` (R287). -/
  | incShared (i : Reg) (j : Reg)
  -- Vector instructions (R290 to R330).
  /-- 140: `vi sj&vk`, logical product (R293). -/
  | andSV (i : Reg) (j : Reg) (k : Reg)
  /-- 141: `vi vj&vk`, logical product (R294). -/
  | andVV (i : Reg) (j : Reg) (k : Reg)
  /-- 142: `vi sj\vk`, logical difference (R295). -/
  | xorSV (i : Reg) (j : Reg) (k : Reg)
  /-- 143: `vi vj\vk`, logical difference (not `i` = `j` = `k`) (R296). -/
  | xorVV (i : Reg) (j : Reg) (k : Reg)
  /-- 143: `vi 0` (143iii), clear (R297). -/
  | clearV (i : Reg)
  /-- 144: `vi sj!vk`, logical sum (`k` and `i` different) (R298). -/
  | orSV (i : Reg) (j : Reg) (k : Reg)
  /-- 144: `vi sj` (144iji), copy `S[j]` to the elements of `V[i]` (R299). -/
  | broadcastV (i : Reg) (j : Reg)
  /-- 145: `vi vj!vk`, logical sum (`j` and `k` different) (R300). -/
  | orVV (i : Reg) (j : Reg) (k : Reg)
  /-- 145: `vi vj` (145ijj), the logical sum of `V[j]` with itself (R300). -/
  | copyV (i : Reg) (j : Reg)
  /-- 146: `vi sj!vk&vm`, merge under the mask (R301). -/
  | mergeSV (i : Reg) (j : Reg) (k : Reg)
  /-- 147: `vi vj!vk&vm`, merge under the mask (R302). -/
  | mergeVV (i : Reg) (j : Reg) (k : Reg)
  /-- 150: `vi vj<ak`, shift left (R303). -/
  | shlV (i : Reg) (j : Reg) (k : Reg)
  /-- 151: `vi vj>ak`, shift right (R304). -/
  | shrV (i : Reg) (j : Reg) (k : Reg)
  /-- 152: `vi vj,vj<ak`, double shift left (R305). -/
  | dshlV (i : Reg) (j : Reg) (k : Reg)
  /-- 153: `vi vj,vj>ak`, double shift right (R306). -/
  | dshrV (i : Reg) (j : Reg) (k : Reg)
  /-- 154: `vi sj*fvk`, floating-point product (R307). -/
  | fmulSV (i : Reg) (j : Reg) (k : Reg)
  /-- 155: `vi vj*fvk`, floating-point product (R308). -/
  | fmulVV (i : Reg) (j : Reg) (k : Reg)
  /-- 156: `vi vj*ivk`, reciprocal iteration (R309). -/
  | recipIterV (i : Reg) (j : Reg) (k : Reg)
  /-- 157: `vi vj*qvk`, reciprocal square root iteration (R310). -/
  | rsqrtIterV (i : Reg) (j : Reg) (k : Reg)
  /-- 160: `vi sj+vk`, 64-bit sum (R311). -/
  | addSV (i : Reg) (j : Reg) (k : Reg)
  /-- 161: `vi vj+vk`, 64-bit sum (R312). -/
  | addVV (i : Reg) (j : Reg) (k : Reg)
  /-- 162: `vi sj-vk`, 64-bit difference (R313). -/
  | subSV (i : Reg) (j : Reg) (k : Reg)
  /-- 163: `vi vj-vk`, 64-bit difference (`j` and `i` different) (R314). -/
  | subVV (i : Reg) (j : Reg) (k : Reg)
  /-- 163: `vi -vk` (163iik), twos complement (R315). -/
  | negV (i : Reg) (k : Reg)
  /-- 164: `vi pvj`, population count (R316). -/
  | popV (i : Reg) (j : Reg)
  /-- 164: `vi qvj`, population count parity (R317). -/
  | parityV (i : Reg) (j : Reg)
  /-- 164: the undescribed sub-codes of 164, `k` = 2 + `n` (R318). -/
  | sub164a (i : Reg) (j : Reg) (n : Fin 2)
  /-- 164: the undescribed sub-codes of 164, `k` = 4 + `n` (R318). -/
  | sub164b (i : Reg) (j : Reg) (n : Fin 4)
  /-- 165: `vi zvj`, leading-zero count (R319). -/
  | lzV (i : Reg) (j : Reg)
  /-- 166: `vi /hvk`, reciprocal approximation (R320). -/
  | recipV (i : Reg) (k : Reg)
  /-- 167: `vi *qvk`, reciprocal square root approximation (R321). -/
  | rsqrtV (i : Reg) (k : Reg)
  /-- 170: `vi sj+fvk`, floating-point sum (R322). -/
  | faddSV (i : Reg) (j : Reg) (k : Reg)
  /-- 171: `vi vj+fvk`, floating-point sum (R323). -/
  | faddVV (i : Reg) (j : Reg) (k : Reg)
  /-- 172: `vi sj-fvk`, floating-point difference (R324). -/
  | fsubSV (i : Reg) (j : Reg) (k : Reg)
  /-- 173: `vi vj-fvk`, floating-point difference (`j` and `i` different) (R325). -/
  | fsubVV (i : Reg) (j : Reg) (k : Reg)
  /-- 173: `vi -fvk` (173iik), normalized negative (R326). -/
  | fnegV (i : Reg) (k : Reg)
  /-- 174: `vi fix,vk`, floating point to integer (R327). -/
  | fixV (i : Reg) (k : Reg)
  /-- 175: `vi flt,vk`, integer to floating point (R328). -/
  | fltV (i : Reg) (k : Reg)
  /-- 176: `vi ci,sj&sk`, compressed iota (R329). -/
  | iota (i : Reg) (j : Reg) (k : Reg)
  /-- 177: (no syntax) executes the same as 176 (R330). -/
  | iota177 (i : Reg) (j : Reg) (k : Reg)
deriving DecidableEq, Repr

end Sys2Proof
end

