-- ==== Sys2Proof/Machine/Dispatch.lean ====
section
/-! DEFINITION. The meaning of every instruction: one direct call for each constructor. -/

namespace Sys2Proof.Machine

/-- What an instruction does (R160 to R330). -/
def exec (i : Instr) (s : State) : Host.Outcome State Fault Refusal :=
  match i with
  | .exitExp jk => Sys2Proof.Machine.execExitExp jk s
  | .err => Sys2Proof.Machine.execErr s
  | .exit => Sys2Proof.Machine.execExit s
  | .cmr => Sys2Proof.Machine.execCmr s
  | .jumpLink n k => Sys2Proof.Machine.execJumpLink n k s
  | .jumpReg k => Sys2Proof.Machine.execJumpReg k s
  | .jump c => Sys2Proof.Machine.execJump c s
  | .jcs c => Sys2Proof.Machine.execJcs c s
  | .jss c => Sys2Proof.Machine.execJss c s
  | .ssm => Sys2Proof.Machine.execSsm s
  | .csm => Sys2Proof.Machine.execCsm s
  | .jzA k c => Sys2Proof.Machine.execJzA k c s
  | .jnA k c => Sys2Proof.Machine.execJnA k c s
  | .jpA k c => Sys2Proof.Machine.execJpA k c s
  | .jmA k c => Sys2Proof.Machine.execJmA k c s
  | .jzS j c => Sys2Proof.Machine.execJzS j c s
  | .jnS j c => Sys2Proof.Machine.execJnS j c s
  | .jpS j c => Sys2Proof.Machine.execJpS j c s
  | .jmS j c => Sys2Proof.Machine.execJmS j c s
  | .addA n j k => Sys2Proof.Machine.execAddA n j k s
  | .subA n j k => Sys2Proof.Machine.execSubA n j k s
  | .mulA n j k => Sys2Proof.Machine.execMulA n j k s
  | .mulA023 n j k => Sys2Proof.Machine.execMulA023 n j k s
  | .moveSA n j => Sys2Proof.Machine.execMoveSA n j s
  | .moveVlA n => Sys2Proof.Machine.execMoveVlA n s
  | .shortA n jk => Sys2Proof.Machine.execShortA n jk s
  | .shortNegA n jk => Sys2Proof.Machine.execShortNegA n jk s
  | .vmZero k => Sys2Proof.Machine.execVmZero k s
  | .vmNonzero k => Sys2Proof.Machine.execVmNonzero k s
  | .vmPositive k => Sys2Proof.Machine.execVmPositive k s
  | .vmNegative k => Sys2Proof.Machine.execVmNegative k s
  | .moveSVm j => Sys2Proof.Machine.execMoveSVm j s
  | .dri => Sys2Proof.Machine.execDri s
  | .eri => Sys2Proof.Machine.execEri s
  | .dfi => Sys2Proof.Machine.execDfi s
  | .efi => Sys2Proof.Machine.execEfi s
  | .sub035 n => Sys2Proof.Machine.execSub035 n s
  | .moveAVl k => Sys2Proof.Machine.execMoveAVl k s
  | .moveAVl037 k => Sys2Proof.Machine.execMoveAVl037 k s
  | .parcelA n m => Sys2Proof.Machine.execParcelA n m s
  | .parcelNegA n m => Sys2Proof.Machine.execParcelNegA n m s
  | .halfA n c => Sys2Proof.Machine.execHalfA n c s
  | .halfA043 n c => Sys2Proof.Machine.execHalfA043 n c s
  | .loadALm n m => Sys2Proof.Machine.execLoadALm n m s
  | .storeALm k m => Sys2Proof.Machine.execStoreALm k m s
  | .loadALmReg n k => Sys2Proof.Machine.execLoadALmReg n k s
  | .storeALmReg j k => Sys2Proof.Machine.execStoreALmReg j k s
  | .halfS n c => Sys2Proof.Machine.execHalfS n c s
  | .halfNegS n c => Sys2Proof.Machine.execHalfNegS n c s
  | .leftS n c => Sys2Proof.Machine.execLeftS n c s
  | .fullS n d => Sys2Proof.Machine.execFullS n d s
  | .loadSLm n m => Sys2Proof.Machine.execLoadSLm n m s
  | .storeSLm j m => Sys2Proof.Machine.execStoreSLm j m s
  | .loadSLmReg n k => Sys2Proof.Machine.execLoadSLmReg n k s
  | .storeSLmReg n k => Sys2Proof.Machine.execStoreSLmReg n k s
  | .loadSSum n j k => Sys2Proof.Machine.execLoadSSum n j k s
  | .storeSSum n j k => Sys2Proof.Machine.execStoreSSum n j k s
  | .loadSReg n k => Sys2Proof.Machine.execLoadSReg n k s
  | .storeSReg n k => Sys2Proof.Machine.execStoreSReg n k s
  | .loadSDisp n k c => Sys2Proof.Machine.execLoadSDisp n k c s
  | .storeSDisp n k c => Sys2Proof.Machine.execStoreSDisp n k c s
  | .loadSAbs n c => Sys2Proof.Machine.execLoadSAbs n c s
  | .storeSAbs n c => Sys2Proof.Machine.execStoreSAbs n c s
  | .loadVStride n j k => Sys2Proof.Machine.execLoadVStride n j k s
  | .storeVStride n j k => Sys2Proof.Machine.execStoreVStride n j k s
  | .gather n j k => Sys2Proof.Machine.execGather n j k s
  | .scatter n j k => Sys2Proof.Machine.execScatter n j k s
  | .loadVLm n k => Sys2Proof.Machine.execLoadVLm n k s
  | .storeVLm n k => Sys2Proof.Machine.execStoreVLm n k s
  | .pass => Sys2Proof.Machine.execPass s
  | .pass077 => Sys2Proof.Machine.execPass077 s
  | .andS n j k => Sys2Proof.Machine.execAndS n j k s
  | .andNotS n j k => Sys2Proof.Machine.execAndNotS n j k s
  | .xorS n j k => Sys2Proof.Machine.execXorS n j k s
  | .orS n j k => Sys2Proof.Machine.execOrS n j k s
  | .copyS n j => Sys2Proof.Machine.execCopyS n j s
  | .addS n j k => Sys2Proof.Machine.execAddS n j k s
  | .subS n j k => Sys2Proof.Machine.execSubS n j k s
  | .popS n j => Sys2Proof.Machine.execPopS n j s
  | .parityS n j => Sys2Proof.Machine.execParityS n j s
  | .sub106a d j n => Sys2Proof.Machine.execSub106a d j n s
  | .sub106b d j n => Sys2Proof.Machine.execSub106b d j n s
  | .lzS n j => Sys2Proof.Machine.execLzS n j s
  | .shlS n jk => Sys2Proof.Machine.execShlS n jk s
  | .shrS n jk => Sys2Proof.Machine.execShrS n jk s
  | .dshlS n j k => Sys2Proof.Machine.execDshlS n j k s
  | .dshrS n j k => Sys2Proof.Machine.execDshrS n j k s
  | .moveVmS n => Sys2Proof.Machine.execMoveVmS n s
  | .moveRtS n => Sys2Proof.Machine.execMoveRtS n s
  | .shortS n jk => Sys2Proof.Machine.execShortS n jk s
  | .shortNegS n jk => Sys2Proof.Machine.execShortNegS n jk s
  | .faddS n j k => Sys2Proof.Machine.execFaddS n j k s
  | .fsubS n j k => Sys2Proof.Machine.execFsubS n j k s
  | .fixS n k => Sys2Proof.Machine.execFixS n k s
  | .fltS n k => Sys2Proof.Machine.execFltS n k s
  | .fmulS n j k => Sys2Proof.Machine.execFmulS n j k s
  | .fmulS125 n j k => Sys2Proof.Machine.execFmulS125 n j k s
  | .recipIterS n j k => Sys2Proof.Machine.execRecipIterS n j k s
  | .rsqrtIterS n j k => Sys2Proof.Machine.execRsqrtIterS n j k s
  | .moveAS n k => Sys2Proof.Machine.execMoveAS n k s
  | .moveASigned n k => Sys2Proof.Machine.execMoveASigned n k s
  | .recipS n j => Sys2Proof.Machine.execRecipS n j s
  | .rsqrtS n j => Sys2Proof.Machine.execRsqrtS n j s
  | .setShared j k => Sys2Proof.Machine.execSetShared j k s
  | .pass135 => Sys2Proof.Machine.execPass135 s
  | .readShared n j => Sys2Proof.Machine.execReadShared n j s
  | .incShared n j => Sys2Proof.Machine.execIncShared n j s
  | .andSV n j k => Sys2Proof.Machine.execAndSV n j k s
  | .andVV n j k => Sys2Proof.Machine.execAndVV n j k s
  | .xorSV n j k => Sys2Proof.Machine.execXorSV n j k s
  | .xorVV n j k => Sys2Proof.Machine.execXorVV n j k s
  | .clearV n => Sys2Proof.Machine.execClearV n s
  | .orSV n j k => Sys2Proof.Machine.execOrSV n j k s
  | .broadcastV n j => Sys2Proof.Machine.execBroadcastV n j s
  | .orVV n j k => Sys2Proof.Machine.execOrVV n j k s
  | .copyV n j => Sys2Proof.Machine.execCopyV n j s
  | .mergeSV n j k => Sys2Proof.Machine.execMergeSV n j k s
  | .mergeVV n j k => Sys2Proof.Machine.execMergeVV n j k s
  | .shlV n j k => Sys2Proof.Machine.execShlV n j k s
  | .shrV n j k => Sys2Proof.Machine.execShrV n j k s
  | .dshlV n j k => Sys2Proof.Machine.execDshlV n j k s
  | .dshrV n j k => Sys2Proof.Machine.execDshrV n j k s
  | .fmulSV n j k => Sys2Proof.Machine.execFmulSV n j k s
  | .fmulVV n j k => Sys2Proof.Machine.execFmulVV n j k s
  | .recipIterV n j k => Sys2Proof.Machine.execRecipIterV n j k s
  | .rsqrtIterV n j k => Sys2Proof.Machine.execRsqrtIterV n j k s
  | .addSV n j k => Sys2Proof.Machine.execAddSV n j k s
  | .addVV n j k => Sys2Proof.Machine.execAddVV n j k s
  | .subSV n j k => Sys2Proof.Machine.execSubSV n j k s
  | .subVV n j k => Sys2Proof.Machine.execSubVV n j k s
  | .negV n k => Sys2Proof.Machine.execNegV n k s
  | .popV n j => Sys2Proof.Machine.execPopV n j s
  | .parityV n j => Sys2Proof.Machine.execParityV n j s
  | .sub164a d j n => Sys2Proof.Machine.execSub164a d j n s
  | .sub164b d j n => Sys2Proof.Machine.execSub164b d j n s
  | .lzV n j => Sys2Proof.Machine.execLzV n j s
  | .recipV n k => Sys2Proof.Machine.execRecipV n k s
  | .rsqrtV n k => Sys2Proof.Machine.execRsqrtV n k s
  | .faddSV n j k => Sys2Proof.Machine.execFaddSV n j k s
  | .faddVV n j k => Sys2Proof.Machine.execFaddVV n j k s
  | .fsubSV n j k => Sys2Proof.Machine.execFsubSV n j k s
  | .fsubVV n j k => Sys2Proof.Machine.execFsubVV n j k s
  | .fnegV n k => Sys2Proof.Machine.execFnegV n k s
  | .fixV n k => Sys2Proof.Machine.execFixV n k s
  | .fltV n k => Sys2Proof.Machine.execFltV n k s
  | .iota n j k => Sys2Proof.Machine.execIota n j k s
  | .iota177 n j k => Sys2Proof.Machine.execIota177 n j k s

end Sys2Proof.Machine
end

