-- ==== Sys2Proof/WellFormed.lean ====
section
/-! DEFINITION. When a term of `Instr` stands for the parcel it names: a general form leaves the designators of a special form or another spelling of its code to that row (R99, R100; the `constraint` column of spec/opcode_table.json). Every other operand is bounded by its type. -/

namespace Sys2Proof

/-- Well-formedness: the constraint of the instruction's row (R99, R100). -/
def Instr.wf : Instr → Bool
  | .exitExp jk => decide (jk ≠ 0 ∧ jk ≠ 1)
  | .err => true
  | .exit => true
  | .cmr => true
  | .jumpLink i k => decide (i ≠ k)
  | .jumpReg _ => true
  | .jump _ => true
  | .jcs _ => true
  | .jss _ => true
  | .ssm => true
  | .csm => true
  | .jzA _ _ => true
  | .jnA _ _ => true
  | .jpA _ _ => true
  | .jmA _ _ => true
  | .jzS _ _ => true
  | .jnS _ _ => true
  | .jpS _ _ => true
  | .jmS _ _ => true
  | .addA _ _ _ => true
  | .subA _ _ _ => true
  | .mulA _ _ _ => true
  | .mulA023 _ _ _ => true
  | .moveSA _ _ => true
  | .moveVlA _ => true
  | .shortA _ _ => true
  | .shortNegA _ _ => true
  | .vmZero _ => true
  | .vmNonzero _ => true
  | .vmPositive _ => true
  | .vmNegative _ => true
  | .moveSVm _ => true
  | .dri => true
  | .eri => true
  | .dfi => true
  | .efi => true
  | .sub035 _ => true
  | .moveAVl _ => true
  | .moveAVl037 _ => true
  | .parcelA _ _ => true
  | .parcelNegA _ _ => true
  | .halfA _ _ => true
  | .halfA043 _ _ => true
  | .loadALm _ _ => true
  | .storeALm _ _ => true
  | .loadALmReg _ _ => true
  | .storeALmReg _ _ => true
  | .halfS _ _ => true
  | .halfNegS _ _ => true
  | .leftS _ _ => true
  | .fullS _ _ => true
  | .loadSLm _ _ => true
  | .storeSLm _ _ => true
  | .loadSLmReg _ _ => true
  | .storeSLmReg _ _ => true
  | .loadSSum _ _ _ => true
  | .storeSSum _ _ _ => true
  | .loadSReg _ _ => true
  | .storeSReg _ _ => true
  | .loadSDisp _ _ _ => true
  | .storeSDisp _ _ _ => true
  | .loadSAbs _ _ => true
  | .storeSAbs _ _ => true
  | .loadVStride _ _ _ => true
  | .storeVStride _ _ _ => true
  | .gather _ _ _ => true
  | .scatter _ _ _ => true
  | .loadVLm _ _ => true
  | .storeVLm _ _ => true
  | .pass => true
  | .pass077 => true
  | .andS _ _ _ => true
  | .andNotS _ _ _ => true
  | .xorS _ _ _ => true
  | .orS _ j k => decide (j ≠ k)
  | .copyS _ _ => true
  | .addS _ _ _ => true
  | .subS _ _ _ => true
  | .popS _ _ => true
  | .parityS _ _ => true
  | .sub106a _ _ _ => true
  | .sub106b _ _ _ => true
  | .lzS _ _ => true
  | .shlS _ _ => true
  | .shrS _ _ => true
  | .dshlS _ _ _ => true
  | .dshrS _ _ _ => true
  | .moveVmS _ => true
  | .moveRtS _ => true
  | .shortS _ _ => true
  | .shortNegS _ _ => true
  | .faddS _ _ _ => true
  | .fsubS _ _ _ => true
  | .fixS _ _ => true
  | .fltS _ _ => true
  | .fmulS _ _ _ => true
  | .fmulS125 _ _ _ => true
  | .recipIterS _ _ _ => true
  | .rsqrtIterS _ _ _ => true
  | .moveAS _ _ => true
  | .moveASigned _ _ => true
  | .recipS _ _ => true
  | .rsqrtS _ _ => true
  | .setShared _ _ => true
  | .pass135 => true
  | .readShared _ _ => true
  | .incShared _ _ => true
  | .andSV _ _ _ => true
  | .andVV _ _ _ => true
  | .xorSV _ _ _ => true
  | .xorVV i j k => decide (¬(i = j ∧ j = k))
  | .clearV _ => true
  | .orSV i _ k => decide (k ≠ i)
  | .broadcastV _ _ => true
  | .orVV _ j k => decide (j ≠ k)
  | .copyV _ _ => true
  | .mergeSV _ _ _ => true
  | .mergeVV _ _ _ => true
  | .shlV _ _ _ => true
  | .shrV _ _ _ => true
  | .dshlV _ _ _ => true
  | .dshrV _ _ _ => true
  | .fmulSV _ _ _ => true
  | .fmulVV _ _ _ => true
  | .recipIterV _ _ _ => true
  | .rsqrtIterV _ _ _ => true
  | .addSV _ _ _ => true
  | .addVV _ _ _ => true
  | .subSV _ _ _ => true
  | .subVV i j _ => decide (j ≠ i)
  | .negV _ _ => true
  | .popV _ _ => true
  | .parityV _ _ => true
  | .sub164a _ _ _ => true
  | .sub164b _ _ _ => true
  | .lzV _ _ => true
  | .recipV _ _ => true
  | .rsqrtV _ _ => true
  | .faddSV _ _ _ => true
  | .faddVV _ _ _ => true
  | .fsubSV _ _ _ => true
  | .fsubVV i j _ => decide (j ≠ i)
  | .fnegV _ _ => true
  | .fixV _ _ => true
  | .fltV _ _ => true
  | .iota _ _ _ => true
  | .iota177 _ _ _ => true

end Sys2Proof
end

