-- ==== Sys2Proof/Decode.lean ====
section
/-! DEFINITION. Decoding by the map of R100 and encoding from the same tables (R90 to R100). The decoder is total: all 128 values of f are assigned (R93), so a first parcel is never refused; a list of parcels is refused, by name, only when it ends before the instruction does. -/

namespace Sys2Proof

/-- `f = parcel[15:9]` (R90). -/
def fieldF (p : Parcel) : BitVec 7 := p.extractLsb' 9 7

/-- `i = parcel[8:6]` (R90). -/
def regI (p : Parcel) : Reg := (p.extractLsb' 6 3).toFin

/-- `j = parcel[5:3]` (R90). -/
def regJ (p : Parcel) : Reg := (p.extractLsb' 3 3).toFin

/-- `k = parcel[2:0]` (R90). -/
def regK (p : Parcel) : Reg := (p.extractLsb' 0 3).toFin

/-- `jk = parcel[5:0]` (R91). -/
def fieldJk (p : Parcel) : BitVec 6 := p.extractLsb' 0 6

/-- The length of an instruction in parcels, a function of f only (R94). -/
def parcelCount (f : BitVec 7) : Nat :=
  match f with
  | 0o040 | 0o041 | 0o044 | 0o045 | 0o054 | 0o055 => 2
  | 0o003 | 0o004 | 0o005 | 0o010 | 0o011 | 0o012 | 0o013 | 0o014 | 0o015 | 0o016 | 0o017
  | 0o042 | 0o043 | 0o050 | 0o051 | 0o052 | 0o064 | 0o065 | 0o066 | 0o067 => 3
  | 0o053 => 5
  | _ => 1

/-! The map of R100, sixteen codes f = 8h to 8h + 7 at a time; a special form or another spelling of a code comes before the general form (R99; log 50). -/

/-- Codes 000 to 007 (R100), by the low octal digit of f. -/
def decodeRow000 (g : Fin 8) (p : Parcel) (m1 : Parcel) (m2 : Parcel) : Instr :=
  match g with
  | 0 => if fieldJk p = 0 then .err else if fieldJk p = 1 then .exit else .exitExp (fieldJk p)
  | 1 => .cmr
  | 2 => if regI p = regK p then .jumpReg (regK p) else .jumpLink (regI p) (regK p)
  | 3 => .jump (m1 ++ m2)
  | 4 => .jcs (m1 ++ m2)
  | 5 => .jss (m1 ++ m2)
  | 6 => .ssm
  | 7 => .csm

/-- Codes 010 to 017 (R100), by the low octal digit of f. -/
def decodeRow010 (g : Fin 8) (p : Parcel) (m1 : Parcel) (m2 : Parcel) : Instr :=
  match g with
  | 0 => .jzA (regK p) (m1 ++ m2)
  | 1 => .jnA (regK p) (m1 ++ m2)
  | 2 => .jpA (regK p) (m1 ++ m2)
  | 3 => .jmA (regK p) (m1 ++ m2)
  | 4 => .jzS (regJ p) (m1 ++ m2)
  | 5 => .jnS (regJ p) (m1 ++ m2)
  | 6 => .jpS (regJ p) (m1 ++ m2)
  | 7 => .jmS (regJ p) (m1 ++ m2)

/-- Codes 020 to 027 (R100), by the low octal digit of f. -/
def decodeRow020 (g : Fin 8) (p : Parcel) : Instr :=
  match g with
  | 0 => .addA (regI p) (regJ p) (regK p)
  | 1 => .subA (regI p) (regJ p) (regK p)
  | 2 => .mulA (regI p) (regJ p) (regK p)
  | 3 => .mulA023 (regI p) (regJ p) (regK p)
  | 4 => .moveSA (regI p) (regJ p)
  | 5 => .moveVlA (regI p)
  | 6 => .shortA (regI p) (fieldJk p)
  | 7 => .shortNegA (regI p) (fieldJk p)

/-- Codes 030 to 037 (R100), by the low octal digit of f. -/
def decodeRow030 (g : Fin 8) (p : Parcel) : Instr :=
  match g with
  | 0 => .vmZero (regK p)
  | 1 => .vmNonzero (regK p)
  | 2 => .vmPositive (regK p)
  | 3 => .vmNegative (regK p)
  | 4 => .moveSVm (regJ p)
  | 5 => (match regK p with | 0 => .dri | 1 => .eri | 2 => .dfi | 3 => .efi | 4 => .sub035 0 | 5 => .sub035 1 | 6 => .sub035 2 | 7 => .sub035 3)
  | 6 => .moveAVl (regK p)
  | 7 => .moveAVl037 (regK p)

/-- Codes 040 to 047 (R100), by the low octal digit of f. -/
def decodeRow040 (g : Fin 8) (p : Parcel) (m1 : Parcel) (m2 : Parcel) : Instr :=
  match g with
  | 0 => .parcelA (regI p) m1
  | 1 => .parcelNegA (regI p) m1
  | 2 => .halfA (regI p) (m1 ++ m2)
  | 3 => .halfA043 (regI p) (m1 ++ m2)
  | 4 => .loadALm (regI p) m1
  | 5 => .storeALm (regK p) m1
  | 6 => .loadALmReg (regI p) (regK p)
  | 7 => .storeALmReg (regJ p) (regK p)

/-- Codes 050 to 057 (R100), by the low octal digit of f. -/
def decodeRow050 (g : Fin 8) (p : Parcel) (m1 : Parcel) (m2 : Parcel) (m3 : Parcel) (m4 : Parcel) : Instr :=
  match g with
  | 0 => .halfS (regI p) (m1 ++ m2)
  | 1 => .halfNegS (regI p) (m1 ++ m2)
  | 2 => .leftS (regI p) (m1 ++ m2)
  | 3 => .fullS (regI p) (m1 ++ m2 ++ m3 ++ m4)
  | 4 => .loadSLm (regI p) m1
  | 5 => .storeSLm (regJ p) m1
  | 6 => .loadSLmReg (regI p) (regK p)
  | 7 => .storeSLmReg (regI p) (regK p)

/-- Codes 060 to 067 (R100), by the low octal digit of f. -/
def decodeRow060 (g : Fin 8) (p : Parcel) (m1 : Parcel) (m2 : Parcel) : Instr :=
  match g with
  | 0 => .loadSSum (regI p) (regJ p) (regK p)
  | 1 => .storeSSum (regI p) (regJ p) (regK p)
  | 2 => .loadSReg (regI p) (regK p)
  | 3 => .storeSReg (regI p) (regK p)
  | 4 => .loadSDisp (regI p) (regK p) (m1 ++ m2)
  | 5 => .storeSDisp (regI p) (regK p) (m1 ++ m2)
  | 6 => .loadSAbs (regI p) (m1 ++ m2)
  | 7 => .storeSAbs (regI p) (m1 ++ m2)

/-- Codes 070 to 077 (R100), by the low octal digit of f. -/
def decodeRow070 (g : Fin 8) (p : Parcel) : Instr :=
  match g with
  | 0 => .loadVStride (regI p) (regJ p) (regK p)
  | 1 => .storeVStride (regI p) (regJ p) (regK p)
  | 2 => .gather (regI p) (regJ p) (regK p)
  | 3 => .scatter (regI p) (regJ p) (regK p)
  | 4 => .loadVLm (regI p) (regK p)
  | 5 => .storeVLm (regI p) (regK p)
  | 6 => .pass
  | 7 => .pass077

/-- Codes 100 to 107 (R100), by the low octal digit of f. -/
def decodeRow100 (g : Fin 8) (p : Parcel) : Instr :=
  match g with
  | 0 => .andS (regI p) (regJ p) (regK p)
  | 1 => .andNotS (regI p) (regJ p) (regK p)
  | 2 => .xorS (regI p) (regJ p) (regK p)
  | 3 => if regJ p = regK p then .copyS (regI p) (regJ p) else .orS (regI p) (regJ p) (regK p)
  | 4 => .addS (regI p) (regJ p) (regK p)
  | 5 => .subS (regI p) (regJ p) (regK p)
  | 6 => (match regK p with | 0 => .popS (regI p) (regJ p) | 1 => .parityS (regI p) (regJ p) | 2 => .sub106a (regI p) (regJ p) 0 | 3 => .sub106a (regI p) (regJ p) 1 | 4 => .sub106b (regI p) (regJ p) 0 | 5 => .sub106b (regI p) (regJ p) 1 | 6 => .sub106b (regI p) (regJ p) 2 | 7 => .sub106b (regI p) (regJ p) 3)
  | 7 => .lzS (regI p) (regJ p)

/-- Codes 110 to 117 (R100), by the low octal digit of f. -/
def decodeRow110 (g : Fin 8) (p : Parcel) : Instr :=
  match g with
  | 0 => .shlS (regI p) (fieldJk p)
  | 1 => .shrS (regI p) (fieldJk p)
  | 2 => .dshlS (regI p) (regJ p) (regK p)
  | 3 => .dshrS (regI p) (regJ p) (regK p)
  | 4 => .moveVmS (regI p)
  | 5 => .moveRtS (regI p)
  | 6 => .shortS (regI p) (fieldJk p)
  | 7 => .shortNegS (regI p) (fieldJk p)

/-- Codes 120 to 127 (R100), by the low octal digit of f. -/
def decodeRow120 (g : Fin 8) (p : Parcel) : Instr :=
  match g with
  | 0 => .faddS (regI p) (regJ p) (regK p)
  | 1 => .fsubS (regI p) (regJ p) (regK p)
  | 2 => .fixS (regI p) (regK p)
  | 3 => .fltS (regI p) (regK p)
  | 4 => .fmulS (regI p) (regJ p) (regK p)
  | 5 => .fmulS125 (regI p) (regJ p) (regK p)
  | 6 => .recipIterS (regI p) (regJ p) (regK p)
  | 7 => .rsqrtIterS (regI p) (regJ p) (regK p)

/-- Codes 130 to 137 (R100), by the low octal digit of f. -/
def decodeRow130 (g : Fin 8) (p : Parcel) : Instr :=
  match g with
  | 0 => .moveAS (regI p) (regK p)
  | 1 => .moveASigned (regI p) (regK p)
  | 2 => .recipS (regI p) (regJ p)
  | 3 => .rsqrtS (regI p) (regJ p)
  | 4 => .setShared (regJ p) (regK p)
  | 5 => .pass135
  | 6 => .readShared (regI p) (regJ p)
  | 7 => .incShared (regI p) (regJ p)

/-- Codes 140 to 147 (R100), by the low octal digit of f. -/
def decodeRow140 (g : Fin 8) (p : Parcel) : Instr :=
  match g with
  | 0 => .andSV (regI p) (regJ p) (regK p)
  | 1 => .andVV (regI p) (regJ p) (regK p)
  | 2 => .xorSV (regI p) (regJ p) (regK p)
  | 3 => if regI p = regJ p ∧ regJ p = regK p then .clearV (regI p) else .xorVV (regI p) (regJ p) (regK p)
  | 4 => if regI p = regK p then .broadcastV (regI p) (regJ p) else .orSV (regI p) (regJ p) (regK p)
  | 5 => if regJ p = regK p then .copyV (regI p) (regJ p) else .orVV (regI p) (regJ p) (regK p)
  | 6 => .mergeSV (regI p) (regJ p) (regK p)
  | 7 => .mergeVV (regI p) (regJ p) (regK p)

/-- Codes 150 to 157 (R100), by the low octal digit of f. -/
def decodeRow150 (g : Fin 8) (p : Parcel) : Instr :=
  match g with
  | 0 => .shlV (regI p) (regJ p) (regK p)
  | 1 => .shrV (regI p) (regJ p) (regK p)
  | 2 => .dshlV (regI p) (regJ p) (regK p)
  | 3 => .dshrV (regI p) (regJ p) (regK p)
  | 4 => .fmulSV (regI p) (regJ p) (regK p)
  | 5 => .fmulVV (regI p) (regJ p) (regK p)
  | 6 => .recipIterV (regI p) (regJ p) (regK p)
  | 7 => .rsqrtIterV (regI p) (regJ p) (regK p)

/-- Codes 160 to 167 (R100), by the low octal digit of f. -/
def decodeRow160 (g : Fin 8) (p : Parcel) : Instr :=
  match g with
  | 0 => .addSV (regI p) (regJ p) (regK p)
  | 1 => .addVV (regI p) (regJ p) (regK p)
  | 2 => .subSV (regI p) (regJ p) (regK p)
  | 3 => if regI p = regJ p then .negV (regI p) (regK p) else .subVV (regI p) (regJ p) (regK p)
  | 4 => (match regK p with | 0 => .popV (regI p) (regJ p) | 1 => .parityV (regI p) (regJ p) | 2 => .sub164a (regI p) (regJ p) 0 | 3 => .sub164a (regI p) (regJ p) 1 | 4 => .sub164b (regI p) (regJ p) 0 | 5 => .sub164b (regI p) (regJ p) 1 | 6 => .sub164b (regI p) (regJ p) 2 | 7 => .sub164b (regI p) (regJ p) 3)
  | 5 => .lzV (regI p) (regJ p)
  | 6 => .recipV (regI p) (regK p)
  | 7 => .rsqrtV (regI p) (regK p)

/-- Codes 170 to 177 (R100), by the low octal digit of f. -/
def decodeRow170 (g : Fin 8) (p : Parcel) : Instr :=
  match g with
  | 0 => .faddSV (regI p) (regJ p) (regK p)
  | 1 => .faddVV (regI p) (regJ p) (regK p)
  | 2 => .fsubSV (regI p) (regJ p) (regK p)
  | 3 => if regI p = regJ p then .fnegV (regI p) (regK p) else .fsubVV (regI p) (regJ p) (regK p)
  | 4 => .fixV (regI p) (regK p)
  | 5 => .fltV (regI p) (regK p)
  | 6 => .iota (regI p) (regJ p) (regK p)
  | 7 => .iota177 (regI p) (regJ p) (regK p)

/-- Codes 000 to 077 (R100), by the middle octal digit of f. -/
def decodeLow (h g : Fin 8) (p : Parcel) (m1 : Parcel) (m2 : Parcel) (m3 : Parcel) (m4 : Parcel) : Instr :=
  match h with
  | 0 => decodeRow000 g p m1 m2
  | 1 => decodeRow010 g p m1 m2
  | 2 => decodeRow020 g p
  | 3 => decodeRow030 g p
  | 4 => decodeRow040 g p m1 m2
  | 5 => decodeRow050 g p m1 m2 m3 m4
  | 6 => decodeRow060 g p m1 m2
  | 7 => decodeRow070 g p

/-- Codes 100 to 177 (R100), by the middle octal digit of f. -/
def decodeHigh (h g : Fin 8) (p : Parcel) : Instr :=
  match h with
  | 0 => decodeRow100 g p
  | 1 => decodeRow110 g p
  | 2 => decodeRow120 g p
  | 3 => decodeRow130 g p
  | 4 => decodeRow140 g p
  | 5 => decodeRow150 g p
  | 6 => decodeRow160 g p
  | 7 => decodeRow170 g p

/-- The instruction of a first parcel and the four parcels after it, of which it uses as many as `parcelCount` says (R93, R95, R100). The octal digits of f are bit 15, bits 14 to 12 and bits 11 to 9 (R90). -/
def decodeParcels (p m1 m2 m3 m4 : Parcel) : Instr :=
  let g : Fin 8 := (p.extractLsb' 9 3).toFin
  let h : Fin 8 := (p.extractLsb' 12 3).toFin
  if p.getLsbD 15 then decodeHigh h g p else decodeLow h g p m1 m2 m3 m4

/-- Why a list of parcels holds no instruction. -/
inductive DecodeError where
  /-- There is no parcel to decode. Raised by `decode`; safe, no instruction runs. -/
  | empty
  /-- The constant parcels of the instruction are missing. Raised by `decode`; safe, no instruction runs. -/
  | truncated
deriving DecidableEq, Repr

/-- Reads one instruction from the parcels of an instruction stream and returns the rest of the stream (R93 to R95). -/
def decode : List Parcel → Except DecodeError (Instr × List Parcel)
  | [] => .error .empty
  | p :: ms =>
    let n := parcelCount (fieldF p) - 1
    if ms.length < n then .error .truncated
    else
      .ok (decodeParcels p (ms.getD 0 0) (ms.getD 1 0) (ms.getD 2 0) (ms.getD 3 0), ms.drop n)

/-- Parcel number `q` of the bits `w` numbered as spec/opcode_table.json numbers them. -/
def tableParcel (nbits w q : Nat) : Parcel := BitVec.ofNat 16 ((w % 2 ^ nbits) >>> (16 * q))

/-- The instruction the decoder reads from an instruction whose bits are `w`, the bits from `nbits` up being zero. -/
def decodeTableWord (nbits w : Nat) : Option Instr :=
  match decode [tableParcel nbits w 0, tableParcel nbits w 1, tableParcel nbits w 2, tableParcel nbits w 3, tableParcel nbits w 4] with
  | .ok (i, _) => some i
  | .error _ => none

/-! Encoding. -/

/-- A parcel of f and three designators (R90). -/
def parcelOf (f : BitVec 7) (i j k : Reg) : Parcel :=
  f ++ (BitVec.ofFin i : BitVec 3) ++ (BitVec.ofFin j : BitVec 3) ++ (BitVec.ofFin k : BitVec 3)

/-- A parcel of f, i and the field jk (R91). -/
def parcelJk (f : BitVec 7) (i : Reg) (jk : BitVec 6) : Parcel := f ++ (BitVec.ofFin i : BitVec 3) ++ jk

/-- The constant parcels m1 and m2 of a 32-bit constant, the high-order parcel first (R95). -/
def constParcels (c : BitVec 32) : List Parcel := [c.extractLsb' 16 16, c.extractLsb' 0 16]

/-- The constant parcels m1 to m4 of a 64-bit constant, the high-order parcel first (R95). -/
def fullParcels (d : BitVec 64) : List Parcel :=
  [d.extractLsb' 48 16, d.extractLsb' 32 16, d.extractLsb' 16 16, d.extractLsb' 0 16]

/-- The parcels of an instruction: the instruction parcel, zero in every ignored field (R92), then its constant parcels (R95). -/
def encode : Instr → List Parcel
  | .exitExp jk => [parcelJk 0o000 0 jk]
  | .err => [parcelJk 0o000 0 0]
  | .exit => [parcelJk 0o000 0 1]
  | .cmr => [parcelOf 0o001 0 0 0]
  | .jumpLink i k => [parcelOf 0o002 i 0 k]
  | .jumpReg k => [parcelOf 0o002 k 0 k]
  | .jump c => parcelOf 0o003 0 0 0 :: constParcels c
  | .jcs c => parcelOf 0o004 0 0 0 :: constParcels c
  | .jss c => parcelOf 0o005 0 0 0 :: constParcels c
  | .ssm => [parcelOf 0o006 0 0 0]
  | .csm => [parcelOf 0o007 0 0 0]
  | .jzA k c => parcelOf 0o010 0 0 k :: constParcels c
  | .jnA k c => parcelOf 0o011 0 0 k :: constParcels c
  | .jpA k c => parcelOf 0o012 0 0 k :: constParcels c
  | .jmA k c => parcelOf 0o013 0 0 k :: constParcels c
  | .jzS j c => parcelOf 0o014 0 j 0 :: constParcels c
  | .jnS j c => parcelOf 0o015 0 j 0 :: constParcels c
  | .jpS j c => parcelOf 0o016 0 j 0 :: constParcels c
  | .jmS j c => parcelOf 0o017 0 j 0 :: constParcels c
  | .addA i j k => [parcelOf 0o020 i j k]
  | .subA i j k => [parcelOf 0o021 i j k]
  | .mulA i j k => [parcelOf 0o022 i j k]
  | .mulA023 i j k => [parcelOf 0o023 i j k]
  | .moveSA i j => [parcelOf 0o024 i j 0]
  | .moveVlA i => [parcelOf 0o025 i 0 0]
  | .shortA i jk => [parcelJk 0o026 i jk]
  | .shortNegA i jk => [parcelJk 0o027 i jk]
  | .vmZero k => [parcelOf 0o030 0 0 k]
  | .vmNonzero k => [parcelOf 0o031 0 0 k]
  | .vmPositive k => [parcelOf 0o032 0 0 k]
  | .vmNegative k => [parcelOf 0o033 0 0 k]
  | .moveSVm j => [parcelOf 0o034 0 j 0]
  | .dri => [parcelOf 0o035 0 0 0]
  | .eri => [parcelOf 0o035 0 0 1]
  | .dfi => [parcelOf 0o035 0 0 2]
  | .efi => [parcelOf 0o035 0 0 3]
  | .sub035 n => [parcelOf 0o035 0 0 ⟨4 + n.val, by omega⟩]
  | .moveAVl k => [parcelOf 0o036 0 0 k]
  | .moveAVl037 k => [parcelOf 0o037 0 0 k]
  | .parcelA i m => [parcelOf 0o040 i 0 0, m]
  | .parcelNegA i m => [parcelOf 0o041 i 0 0, m]
  | .halfA i c => parcelOf 0o042 i 0 0 :: constParcels c
  | .halfA043 i c => parcelOf 0o043 i 0 0 :: constParcels c
  | .loadALm i m => [parcelOf 0o044 i 0 0, m]
  | .storeALm k m => [parcelOf 0o045 0 0 k, m]
  | .loadALmReg i k => [parcelOf 0o046 i 0 k]
  | .storeALmReg j k => [parcelOf 0o047 0 j k]
  | .halfS i c => parcelOf 0o050 i 0 0 :: constParcels c
  | .halfNegS i c => parcelOf 0o051 i 0 0 :: constParcels c
  | .leftS i c => parcelOf 0o052 i 0 0 :: constParcels c
  | .fullS i d => parcelOf 0o053 i 0 0 :: fullParcels d
  | .loadSLm i m => [parcelOf 0o054 i 0 0, m]
  | .storeSLm j m => [parcelOf 0o055 0 j 0, m]
  | .loadSLmReg i k => [parcelOf 0o056 i 0 k]
  | .storeSLmReg i k => [parcelOf 0o057 i 0 k]
  | .loadSSum i j k => [parcelOf 0o060 i j k]
  | .storeSSum i j k => [parcelOf 0o061 i j k]
  | .loadSReg i k => [parcelOf 0o062 i 0 k]
  | .storeSReg i k => [parcelOf 0o063 i 0 k]
  | .loadSDisp i k c => parcelOf 0o064 i 0 k :: constParcels c
  | .storeSDisp i k c => parcelOf 0o065 i 0 k :: constParcels c
  | .loadSAbs i c => parcelOf 0o066 i 0 0 :: constParcels c
  | .storeSAbs i c => parcelOf 0o067 i 0 0 :: constParcels c
  | .loadVStride i j k => [parcelOf 0o070 i j k]
  | .storeVStride i j k => [parcelOf 0o071 i j k]
  | .gather i j k => [parcelOf 0o072 i j k]
  | .scatter i j k => [parcelOf 0o073 i j k]
  | .loadVLm i k => [parcelOf 0o074 i 0 k]
  | .storeVLm i k => [parcelOf 0o075 i 0 k]
  | .pass => [parcelOf 0o076 0 0 0]
  | .pass077 => [parcelOf 0o077 0 0 0]
  | .andS i j k => [parcelOf 0o100 i j k]
  | .andNotS i j k => [parcelOf 0o101 i j k]
  | .xorS i j k => [parcelOf 0o102 i j k]
  | .orS i j k => [parcelOf 0o103 i j k]
  | .copyS i j => [parcelOf 0o103 i j j]
  | .addS i j k => [parcelOf 0o104 i j k]
  | .subS i j k => [parcelOf 0o105 i j k]
  | .popS i j => [parcelOf 0o106 i j 0]
  | .parityS i j => [parcelOf 0o106 i j 1]
  | .sub106a i j n => [parcelOf 0o106 i j ⟨2 + n.val, by omega⟩]
  | .sub106b i j n => [parcelOf 0o106 i j ⟨4 + n.val, by omega⟩]
  | .lzS i j => [parcelOf 0o107 i j 0]
  | .shlS i jk => [parcelJk 0o110 i jk]
  | .shrS i jk => [parcelJk 0o111 i jk]
  | .dshlS i j k => [parcelOf 0o112 i j k]
  | .dshrS i j k => [parcelOf 0o113 i j k]
  | .moveVmS i => [parcelOf 0o114 i 0 0]
  | .moveRtS i => [parcelOf 0o115 i 0 0]
  | .shortS i jk => [parcelJk 0o116 i jk]
  | .shortNegS i jk => [parcelJk 0o117 i jk]
  | .faddS i j k => [parcelOf 0o120 i j k]
  | .fsubS i j k => [parcelOf 0o121 i j k]
  | .fixS i k => [parcelOf 0o122 i 0 k]
  | .fltS i k => [parcelOf 0o123 i 0 k]
  | .fmulS i j k => [parcelOf 0o124 i j k]
  | .fmulS125 i j k => [parcelOf 0o125 i j k]
  | .recipIterS i j k => [parcelOf 0o126 i j k]
  | .rsqrtIterS i j k => [parcelOf 0o127 i j k]
  | .moveAS i k => [parcelOf 0o130 i 0 k]
  | .moveASigned i k => [parcelOf 0o131 i 0 k]
  | .recipS i j => [parcelOf 0o132 i j 0]
  | .rsqrtS i j => [parcelOf 0o133 i j 0]
  | .setShared j k => [parcelOf 0o134 0 j k]
  | .pass135 => [parcelOf 0o135 0 0 0]
  | .readShared i j => [parcelOf 0o136 i j 0]
  | .incShared i j => [parcelOf 0o137 i j 0]
  | .andSV i j k => [parcelOf 0o140 i j k]
  | .andVV i j k => [parcelOf 0o141 i j k]
  | .xorSV i j k => [parcelOf 0o142 i j k]
  | .xorVV i j k => [parcelOf 0o143 i j k]
  | .clearV i => [parcelOf 0o143 i i i]
  | .orSV i j k => [parcelOf 0o144 i j k]
  | .broadcastV i j => [parcelOf 0o144 i j i]
  | .orVV i j k => [parcelOf 0o145 i j k]
  | .copyV i j => [parcelOf 0o145 i j j]
  | .mergeSV i j k => [parcelOf 0o146 i j k]
  | .mergeVV i j k => [parcelOf 0o147 i j k]
  | .shlV i j k => [parcelOf 0o150 i j k]
  | .shrV i j k => [parcelOf 0o151 i j k]
  | .dshlV i j k => [parcelOf 0o152 i j k]
  | .dshrV i j k => [parcelOf 0o153 i j k]
  | .fmulSV i j k => [parcelOf 0o154 i j k]
  | .fmulVV i j k => [parcelOf 0o155 i j k]
  | .recipIterV i j k => [parcelOf 0o156 i j k]
  | .rsqrtIterV i j k => [parcelOf 0o157 i j k]
  | .addSV i j k => [parcelOf 0o160 i j k]
  | .addVV i j k => [parcelOf 0o161 i j k]
  | .subSV i j k => [parcelOf 0o162 i j k]
  | .subVV i j k => [parcelOf 0o163 i j k]
  | .negV i k => [parcelOf 0o163 i i k]
  | .popV i j => [parcelOf 0o164 i j 0]
  | .parityV i j => [parcelOf 0o164 i j 1]
  | .sub164a i j n => [parcelOf 0o164 i j ⟨2 + n.val, by omega⟩]
  | .sub164b i j n => [parcelOf 0o164 i j ⟨4 + n.val, by omega⟩]
  | .lzV i j => [parcelOf 0o165 i j 0]
  | .recipV i k => [parcelOf 0o166 i 0 k]
  | .rsqrtV i k => [parcelOf 0o167 i 0 k]
  | .faddSV i j k => [parcelOf 0o170 i j k]
  | .faddVV i j k => [parcelOf 0o171 i j k]
  | .fsubSV i j k => [parcelOf 0o172 i j k]
  | .fsubVV i j k => [parcelOf 0o173 i j k]
  | .fnegV i k => [parcelOf 0o173 i i k]
  | .fixV i k => [parcelOf 0o174 i 0 k]
  | .fltV i k => [parcelOf 0o175 i 0 k]
  | .iota i j k => [parcelOf 0o176 i j k]
  | .iota177 i j k => [parcelOf 0o177 i j k]

end Sys2Proof
end

