-- ==== Sys2Proof/Machine/Reservation.lean ====
section
/-! DEFINITION. The reservation flags (R39, R71 iii, R390): an instruction issues only when the S and V registers it names are free, so an outstanding Common Memory read into one of them has its data by then. A read delivers to S and V registers only. -/

namespace Sys2Proof.Machine

/-- An S or V register as a resource of the issue mechanism. -/
inductive RegName where
  | s (n : Reg)
  | v (n : Reg)
deriving DecidableEq, Repr

/-- The register a read delivers to. -/
def LoadDest.register : LoadDest → RegName
  | .s n => .s n
  | .v n _ => .v n

/-- The S and V registers an instruction names, as source or destination (R21 to R23). -/
def registersNamed : Instr → List RegName
  | .exitExp _ => []
  | .err => []
  | .exit => []
  | .cmr => []
  | .jumpLink _ _ => []
  | .jumpReg _ => []
  | .jump _ => []
  | .jcs _ => []
  | .jss _ => []
  | .ssm => []
  | .csm => []
  | .jzA _ _ => []
  | .jnA _ _ => []
  | .jpA _ _ => []
  | .jmA _ _ => []
  | .jzS j _ => [.s j]
  | .jnS j _ => [.s j]
  | .jpS j _ => [.s j]
  | .jmS j _ => [.s j]
  | .addA _ _ _ => []
  | .subA _ _ _ => []
  | .mulA _ _ _ => []
  | .mulA023 _ _ _ => []
  | .moveSA _ j => [.s j]
  | .moveVlA _ => []
  | .shortA _ _ => []
  | .shortNegA _ _ => []
  | .vmZero k => [.v k]
  | .vmNonzero k => [.v k]
  | .vmPositive k => [.v k]
  | .vmNegative k => [.v k]
  | .moveSVm j => [.s j]
  | .dri => []
  | .eri => []
  | .dfi => []
  | .efi => []
  | .sub035 _ => []
  | .moveAVl _ => []
  | .moveAVl037 _ => []
  | .parcelA _ _ => []
  | .parcelNegA _ _ => []
  | .halfA _ _ => []
  | .halfA043 _ _ => []
  | .loadALm _ _ => []
  | .storeALm _ _ => []
  | .loadALmReg _ _ => []
  | .storeALmReg _ _ => []
  | .halfS i _ => [.s i]
  | .halfNegS i _ => [.s i]
  | .leftS i _ => [.s i]
  | .fullS i _ => [.s i]
  | .loadSLm i _ => [.s i]
  | .storeSLm j _ => [.s j]
  | .loadSLmReg i _ => [.s i]
  | .storeSLmReg i _ => [.s i]
  | .loadSSum i _ _ => [.s i]
  | .storeSSum i _ _ => [.s i]
  | .loadSReg i _ => [.s i]
  | .storeSReg i _ => [.s i]
  | .loadSDisp i _ _ => [.s i]
  | .storeSDisp i _ _ => [.s i]
  | .loadSAbs i _ => [.s i]
  | .storeSAbs i _ => [.s i]
  | .loadVStride i _ _ => [.v i]
  | .storeVStride i _ _ => [.v i]
  | .gather i j _ => [.v i, .v j]
  | .scatter i j _ => [.v i, .v j]
  | .loadVLm i _ => [.v i]
  | .storeVLm i _ => [.v i]
  | .pass => []
  | .pass077 => []
  | .andS i j k => [.s i, .s j, .s k]
  | .andNotS i j k => [.s i, .s j, .s k]
  | .xorS i j k => [.s i, .s j, .s k]
  | .orS i j k => [.s i, .s j, .s k]
  | .copyS i j => [.s i, .s j]
  | .addS i j k => [.s i, .s j, .s k]
  | .subS i j k => [.s i, .s j, .s k]
  | .popS i j => [.s i, .s j]
  | .parityS i j => [.s i, .s j]
  | .sub106a i j _ => [.s i, .s j]
  | .sub106b i j _ => [.s i, .s j]
  | .lzS i j => [.s i, .s j]
  | .shlS i _ => [.s i]
  | .shrS i _ => [.s i]
  | .dshlS i j _ => [.s i, .s j]
  | .dshrS i j _ => [.s i, .s j]
  | .moveVmS i => [.s i]
  | .moveRtS i => [.s i]
  | .shortS i _ => [.s i]
  | .shortNegS i _ => [.s i]
  | .faddS i j k => [.s i, .s j, .s k]
  | .fsubS i j k => [.s i, .s j, .s k]
  | .fixS i k => [.s i, .s k]
  | .fltS i k => [.s i, .s k]
  | .fmulS i j k => [.s i, .s j, .s k]
  | .fmulS125 i j k => [.s i, .s j, .s k]
  | .recipIterS i j k => [.s i, .s j, .s k]
  | .rsqrtIterS i j k => [.s i, .s j, .s k]
  | .moveAS i _ => [.s i]
  | .moveASigned i _ => [.s i]
  | .recipS i j => [.s i, .s j]
  | .rsqrtS i j => [.s i, .s j]
  | .setShared _ _ => []
  | .pass135 => []
  | .readShared _ _ => []
  | .incShared _ _ => []
  | .andSV i j k => [.v i, .s j, .v k]
  | .andVV i j k => [.v i, .v j, .v k]
  | .xorSV i j k => [.v i, .s j, .v k]
  | .xorVV i j k => [.v i, .v j, .v k]
  | .clearV i => [.v i]
  | .orSV i j k => [.v i, .s j, .v k]
  | .broadcastV i j => [.v i, .s j]
  | .orVV i j k => [.v i, .v j, .v k]
  | .copyV i j => [.v i, .v j]
  | .mergeSV i j k => [.v i, .s j, .v k]
  | .mergeVV i j k => [.v i, .v j, .v k]
  | .shlV i j _ => [.v i, .v j]
  | .shrV i j _ => [.v i, .v j]
  | .dshlV i j _ => [.v i, .v j]
  | .dshrV i j _ => [.v i, .v j]
  | .fmulSV i j k => [.v i, .s j, .v k]
  | .fmulVV i j k => [.v i, .v j, .v k]
  | .recipIterV i j k => [.v i, .v j, .v k]
  | .rsqrtIterV i j k => [.v i, .v j, .v k]
  | .addSV i j k => [.v i, .s j, .v k]
  | .addVV i j k => [.v i, .v j, .v k]
  | .subSV i j k => [.v i, .s j, .v k]
  | .subVV i j k => [.v i, .v j, .v k]
  | .negV i k => [.v i, .v k]
  | .popV i j => [.v i, .v j]
  | .parityV i j => [.v i, .v j]
  | .sub164a i j _ => [.v i, .v j]
  | .sub164b i j _ => [.v i, .v j]
  | .lzV i j => [.v i, .v j]
  | .recipV i k => [.v i, .v k]
  | .rsqrtV i k => [.v i, .v k]
  | .faddSV i j k => [.v i, .s j, .v k]
  | .faddVV i j k => [.v i, .v j, .v k]
  | .fsubSV i j k => [.v i, .s j, .v k]
  | .fsubVV i j k => [.v i, .v j, .v k]
  | .fnegV i k => [.v i, .v k]
  | .fixV i k => [.v i, .v k]
  | .fltV i k => [.v i, .v k]
  | .iota i j k => [.v i, .s j, .s k]
  | .iota177 i j k => [.v i, .s j, .s k]

/-- A value of the free-value counter is used up (log 8). -/
def State.tick (s : State) : State := { s with draws := s.draws + 1 }

/-- An instruction issues: every outstanding read into a register it names has delivered its data (R39, R71 iii; log 17). -/
def State.issue (i : Instr) (s : State) : State :=
  { s with
    port := { writes := s.port.writes
              reads := s.port.reads.filter (fun r => !(registersNamed i).contains r.dest.register) } }

end Sys2Proof.Machine
end

