-- ==== Sys2Proof/Machine/Fetch.lean ====
section
/-! DEFINITION. Instruction fetch (R54 to R57, R77) and the placing of an instruction in memory. -/

namespace Sys2Proof.Machine

/-- The place of bit 0 of parcel number q within a word (R55, D1). -/
def parcelShift (order : ParcelOrder) (q : Nat) : Nat :=
  match order with
  | .highFirst => 48 - 16 * q
  | .lowFirst => 16 * q

/-- Parcel number q of a word (R55). -/
def parcelIn (order : ParcelOrder) (w : Word) (q : Nat) : Parcel := w.extractLsb' (parcelShift order q) 16

/-- A word with its parcel number q replaced (R55). -/
def withParcel (order : ParcelOrder) (w : Word) (q : Nat) (v : Parcel) : Word :=
  (w &&& ~~~((BitVec.allOnes 16).zeroExtend 64 <<< parcelShift order q)) |||
    (v.zeroExtend 64 <<< parcelShift order q)

/-- The absolute address of the word that holds a parcel: `BA + p[31:2]` (R54, R56). -/
def State.parcelWord (s : State) (p : Addr) : Addr := s.cmAbs (p >>> 2)

/-- The number of a parcel within its word, `p[1:0]` (R54). -/
def parcelNumber (p : Addr) : Nat := (p.extractLsb' 0 2).toNat

/-- One fetched parcel and what befell its fetch. -/
structure FetchedParcel where
  parcel : Parcel
  /-- A memory range error (R57). -/
  outOfField : Bool
  /-- The word is where no storage is installed (R52; log 42). -/
  missing : Bool
  /-- The word has been stored to in this computation period (R77; log 22). -/
  stale : Bool
deriving DecidableEq, Repr

/-- `FetchParcel(p)`: relocated and checked like a data reference; out of the field it reads as zero (R57, D4; log 12). -/
def State.fetchParcel (s : State) (p : Addr) : FetchedParcel :=
  let a := s.parcelWord p
  if s.inField a then
    { parcel := parcelIn s.params.parcelOrder (s.cm.read a.toNat) (parcelNumber p)
      outOfField := false
      missing := s.missing a
      stale := s.dirty.contains a.toNat }
  else { parcel := 0, outOfField := true, missing := false, stale := false }

/-- The instruction parcel at P and the constant parcels its code takes (R94, R95). -/
def State.fetched (s : State) : List FetchedParcel :=
  let first := s.fetchParcel s.p
  first ::
    (List.range (parcelCount (fieldF first.parcel) - 1)).map
      (fun q => s.fetchParcel (s.p + BitVec.ofNat 32 (q + 1)))

/-- The instruction of the fetched parcels (R93). -/
def decodeFetched (fs : List FetchedParcel) : Instr :=
  let q := fun n => ((fs.map (·.parcel)).getD n 0)
  decodeParcels (q 0) (q 1) (q 2) (q 3) (q 4)

/-- A parcel stored at a parcel address, as a loader does (R352 h). -/
def State.placeParcel (p : Addr) (v : Parcel) (s : State) : State :=
  let a := (s.parcelWord p).toNat
  { s with cm := s.cm.write a (withParcel s.params.parcelOrder (s.cm.read a) (parcelNumber p) v) }

/-- Parcels stored one after another (R54). -/
def State.placeParcels : List Parcel → Addr → State → State
  | [], _, s => s
  | v :: vs, p, s => State.placeParcels vs (p + 1) (s.placeParcel p v)

/-- Whether the five parcels at P lie in the field, in installed memory. -/
def State.roomAtP (s : State) : Bool :=
  (List.range 5).all fun q =>
    let a := s.parcelWord (s.p + BitVec.ofNat 32 q)
    s.inField a && !s.missing a

/-- A field that has room at P: the present one, or else all of installed memory with P at its start. -/
def State.makeRoom (s : State) : State :=
  if s.roomAtP then s else { s with ba := 0, la := BitVec.ofNat 32 s.params.cmWords, p := 0 }

/-- The words that hold the five parcels at P count as not stored to. -/
def State.cleanAtP (s : State) : State :=
  { s with
    dirty := s.dirty.filter fun a =>
      (List.range 5).all fun q => decide (a ≠ (s.parcelWord (s.p + BitVec.ofNat 32 q)).toNat) }

/-- The processor running (R353). -/
def State.started (s : State) : State :=
  { s with run := .running, ended := none, bps := { s.bps with idleMode := false } }

end Sys2Proof.Machine
end

