-- ==== Sys2Proof/Machine/Step.lean ====
section
/-! DEFINITION. One step of the machine (R353, R390) and the placing of an instruction where it is fetched. -/

namespace Sys2Proof.Machine

/-- One step. Idle, the machine does nothing (R362; log 6). Running, it fetches the instruction at P and does it: a fetch range error is signalled and, where enabled, halts the processor in place of the instruction (R57, R347 c; log 13). -/
def step (s : State) : Host.Outcome State Fault Refusal :=
  match s.run with
  | .idle => .next s
  | .running =>
    let fs := s.fetched
    let t := s.tick
    if fs.any (·.stale) then .refused .selfModifiedCode
    else if fs.any (·.missing) then .fault .beyondInstalledMemory
    else if fs.any (·.outOfField) then
      if s.bps.rangeHaltEnable then .next (t.signalRange.stop .haltedRange fs.length)
      else exec (decodeFetched fs) (t.signalRange.issue (decodeFetched fs))
    else exec (decodeFetched fs) (t.issue (decodeFetched fs))

/-- The state with an instruction of the opcode table stored where `step` fetches next, and the processor running (log 5): the field is widened to all of installed memory, with P at its start, where the present one has no room at P. -/
def State.withFetchWord (s : State) (nbits w : Nat) : State :=
  (State.placeParcels
    [tableParcel nbits w 0, tableParcel nbits w 1, tableParcel nbits w 2, tableParcel nbits w 3, tableParcel nbits w 4]
    s.makeRoom.p s.makeRoom).cleanAtP.started

end Sys2Proof.Machine
end

