-- ==== Sys2Proof/Machine/Foreground.lean ====
section
/-! DEFINITION. What the Foreground Processor does to an idle Background Processor: the launch of a computation period (R352, R353, R382 to R385; log 5, log 54). No step of the machine does it. -/

namespace Sys2Proof.Machine

/-- The launch record of one processor (R384): what the Foreground Processor and the loader supply. -/
structure LaunchRecord where
  ba : Addr
  la : Addr
  /-- The entry parcel address. -/
  p0 : Addr
  semSelect : Reg
  /-- The value of the assigned semaphore flag. -/
  sem0 : Bool
  rangeHalt0 : Bool
  fpEnable0 : Bool
  /-- The words the loader writes, by address relative to BA. -/
  image : List (Nat × Word)
  /-- The Shared registers, where there are any. -/
  sr0 : Vector Addr 8
deriving DecidableEq, Repr

/-- Launch premise P1: `0 <= BA <= LA <= CM_WORDS`, the image within the field (R62, R384, D22). -/
def LaunchRecord.wellFormed (r : LaunchRecord) (params : Params) : Bool :=
  decide (r.ba.toNat ≤ r.la.toNat) && decide (r.la.toNat ≤ params.cmWords) &&
    r.image.all (fun c => decide (r.ba.toNat + c.1 < r.la.toNat))

/-- The image in Common Memory. -/
def LaunchRecord.load (r : LaunchRecord) (m : Memory) : Memory :=
  r.image.foldl (fun m c => m.write (r.ba.toNat + c.1) c.2) m

/-- The bits 21 and 22 of the status register, bit 21 first: the only ones whose places are given (R31, D9; log 24). -/
def State.statusBits21And22 (s : State) : Bool × Bool :=
  match s.params.enableBitOrder with
  | .range21Fp22 => (s.bps.rangeHaltEnable, s.bps.fpEnable)
  | .fp21Range22 => (s.bps.fpEnable, s.bps.rangeHaltEnable)

/-- The state at the start of a computation period (R352 a to d and h, R382 to R384). Registers, Local Memory and every word of Common Memory outside the image, in the field or not, are what they were (R382 gives them no value, R385; log 54, DESIGN CHOICE); the port, the instruction buffers and the status fields are as R382 takes them at a launch. -/
def State.startPeriod (r : LaunchRecord) (s : State) : State :=
  { s with
    p := r.p0
    ba := r.ba
    la := r.la
    bps :=
      { exitMode := false, idleMode := false, exitCode := 0, semSelect := r.semSelect, semBit := false,
        rangeHaltEnable := r.rangeHalt0, fpEnable := r.fpEnable0, rangeError := false, fpError := false }
    run := .running
    ended := none
    cm := r.load s.cm
    port := Port.empty
    dirty := []
    sem := s.sem.set r.semSelect.val r.sem0 r.semSelect.isLt
    sr := r.sr0 }

/-- The launch of a computation period, which takes an idle processor alone to running: BA and LA are entered in idle mode and stay while running (R352 a, R353). What the Foreground Processor may do to a running processor is not described (R352 f); a launch of one changes nothing (launch premise P6; log 54, DESIGN CHOICE). -/
def State.launch (r : LaunchRecord) (s : State) : State :=
  match s.run with
  | .idle => s.startPeriod r
  | .running => s

end Sys2Proof.Machine
end

