-- ==== Sys2Proof/Safety.lean ====
section
/-! DEFINITION. What claims are stated with: the places of the state and frames over them, how a code is decoded, the invariant of the machine, and safe runs. -/

namespace Sys2Proof.Machine

/-! ## Frames -/

/-- A place of the state that an instruction may change or leave alone: every register, status field, memory word and piece of hidden state of State. -/
inductive Loc where
  | p
  | ba
  | la
  | a (n : Reg)
  | s (n : Reg)
  | v (n : Reg) (e : Elem)
  | vl
  | vm
  | rtc
  | exitMode
  | idleMode
  | exitCode
  | semSelect
  | semBit
  | rangeHaltEnable
  | fpEnable
  | rangeError
  | fpError
  | run
  | ended
  /-- A word of Local Memory. -/
  | lm (addr : Nat)
  /-- A word of Common Memory: what is in memory and what waits in the port for it. -/
  | cm (addr : Nat)
  /-- The outstanding reads of the port. -/
  | reads
  | dirty
  | sem (n : Reg)
  | sr (n : Reg)
  | params
  | draws
deriving DecidableEq, Repr

/-- Two states hold the same in a place. -/
def Agree (l : Loc) (s t : State) : Prop :=
  match l with
  | .p => t.p = s.p
  | .ba => t.ba = s.ba
  | .la => t.la = s.la
  | .a n => t.A n = s.A n
  | .s n => t.S n = s.S n
  | .v n e => t.V n e = s.V n e
  | .vl => t.vl = s.vl
  | .vm => t.vm = s.vm
  | .rtc => t.rtc = s.rtc
  | .exitMode => t.bps.exitMode = s.bps.exitMode
  | .idleMode => t.bps.idleMode = s.bps.idleMode
  | .exitCode => t.bps.exitCode = s.bps.exitCode
  | .semSelect => t.bps.semSelect = s.bps.semSelect
  | .semBit => t.bps.semBit = s.bps.semBit
  | .rangeHaltEnable => t.bps.rangeHaltEnable = s.bps.rangeHaltEnable
  | .fpEnable => t.bps.fpEnable = s.bps.fpEnable
  | .rangeError => t.bps.rangeError = s.bps.rangeError
  | .fpError => t.bps.fpError = s.bps.fpError
  | .run => t.run = s.run
  | .ended => t.ended = s.ended
  | .lm addr => t.lm.read addr = s.lm.read addr
  | .cm addr => t.cm.read addr = s.cm.read addr ∧ t.waiting addr = s.waiting addr
  | .reads => t.port.reads = s.port.reads
  | .dirty => t.dirty = s.dirty
  | .sem n => t.sem.get n = s.sem.get n
  | .sr n => t.sr.get n = s.sr.get n
  | .params => t.params = s.params
  | .draws => t.draws = s.draws

/-- Every place outside `changed` holds in `t` what it holds in `s`. -/
def Frame (changed : Loc → Prop) (s t : State) : Prop := ∀ l, ¬ changed l → Agree l s t

/-- A result is a next state with a property, every place outside `changed` as before. -/
def Completes (r : Result) (s : State) (changed : Loc → Prop) (post : State → Prop) : Prop :=
  ∃ t, r = .next t ∧ post t ∧ Frame changed s t

/-- The places that a stop changes beside P and the memory of the port: idle mode, the run state, the outcome, the outstanding reads (R343, R344). -/
def StopLoc (l : Loc) : Prop := l = .p ∨ l = .idleMode ∨ l = .run ∨ l = .ended ∨ l = .reads

/-- The processor has stopped with an outcome: idle, nothing outstanding, P at the instruction of `len` parcels or past it (R349, D18). -/
def Stopped (why : RunEnd) (len : Nat) (s t : State) : Prop :=
  t.run = .idle ∧ t.bps.idleMode = true ∧ t.ended = some why ∧ t.port = Port.empty ∧
    (t.p = s.p ∨ t.p = s.p + BitVec.ofNat 32 len)

/-- Every write that waits is complete: a word with no waiting write is unchanged, another holds one of the values that waited for it (R70, R71). -/
def Landed (s t : State) : Prop :=
  ∀ a, if s.waiting a = [] then t.cm.read a = s.cm.read a else t.cm.read a ∈ s.waiting a

/-- A value that a load of an address may get: the word in memory or one of the values waiting for it; the word in memory where none waits (R71). -/
def MayLoad (s : State) (a : Nat) (v : Word) : Prop := v = s.cm.read a ∨ v ∈ s.waiting a

/-- Words of Common Memory that have waiting writes may change where the waiting writes complete. -/
def WaitingLoc (s : State) (l : Loc) : Prop := ∃ a, l = .cm a ∧ s.waiting a ≠ []

/-- An instruction of `len` parcels writes `v` to `A[i]` and nothing else but P. -/
def WritesA (r : Result) (s : State) (i : Reg) (v : Addr) (len : Nat) : Prop :=
  Completes r s (fun l => l = .p ∨ l = .a i) (fun t => t.A i = v ∧ t.p = s.p + BitVec.ofNat 32 len)

/-- An instruction of `len` parcels writes `v` to `S[i]` and nothing else but P. -/
def WritesS (r : Result) (s : State) (i : Reg) (v : Word) (len : Nat) : Prop :=
  Completes r s (fun l => l = .p ∨ l = .s i) (fun t => t.S i = v ∧ t.p = s.p + BitVec.ofNat 32 len)

/-- A one-parcel instruction writes `f e` to the elements e below the vector length of `V[i]` and nothing else but P (R129). -/
def WritesV (r : Result) (s : State) (i : Reg) (f : Elem → Word) : Prop :=
  Completes r s (fun l => l = .p ∨ ∃ e : Elem, l = .v i e ∧ e.val < s.vlen)
    (fun t => (∀ e : Elem, e.val < s.vlen → t.V i e = f e) ∧ t.p = s.p + 1)

/-- A scalar floating-point instruction with result word `x.1` and range error `x.2` (R280, R344). -/
def WritesFpS (r : Result) (s : State) (i : Reg) (x : Word × Bool) : Prop :=
  (x.2 = false ∨ s.bps.fpEnable = false → WritesS r s i x.1 1) ∧
    (x.2 = true ∧ s.bps.fpEnable = true →
      Completes r s (fun l => StopLoc l ∨ WaitingLoc s l ∨ l = .s i ∨ l = .fpError)
        (fun t => t.S i = x.1 ∧ t.bps.fpError = true ∧ Stopped .haltedFp 1 s t ∧ Landed s t))

/-- A vector floating-point instruction with element results `f e` (R290, R344). -/
def WritesFpV (r : Result) (s : State) (i : Reg) (f : Elem → Word × Bool) : Prop :=
  ((∀ e : Elem, e.val < s.vlen → (f e).2 = false) ∨ s.bps.fpEnable = false → WritesV r s i (fun e => (f e).1)) ∧
    ((∃ e : Elem, e.val < s.vlen ∧ (f e).2 = true) ∧ s.bps.fpEnable = true →
      Completes r s
        (fun l => StopLoc l ∨ WaitingLoc s l ∨ l = .fpError ∨ ∃ e : Elem, l = .v i e ∧ e.val < s.vlen)
        (fun t => (∀ e : Elem, e.val < s.vlen → t.V i e = (f e).1) ∧ t.bps.fpError = true ∧
          Stopped .haltedFp 1 s t ∧ Landed s t))

/-! ## Memory references -/

/-- The place of a Local Memory address: itself below 16384, its low 14 bits above under `LM_ADDR_MODE` = `wrap14` (R66, D5). -/
def LmPlace (s : State) (a : Addr) (n : Nat) : Prop :=
  (a.toNat < 16384 ∧ n = a.toNat) ∨ (16384 ≤ a.toNat ∧ s.params.lmAddrMode = .wrap14 ∧ n = a.toNat % 16384)

/-- A Local Memory address that leads nowhere (R66, D5). -/
def LmNowhere (s : State) (a : Addr) : Prop := 16384 ≤ a.toNat ∧ s.params.lmAddrMode = .fault

/-- An absolute address in the field (R61). -/
def InRange (s : State) (a : Addr) : Prop := s.ba ≤ a ∧ a < s.la

/-- An absolute address in the field, where storage is installed (R52, R61). -/
def Installed (s : State) (a : Addr) : Prop := InRange s a ∧ a.toNat < s.params.cmWords

/-- An outstanding read of the address delivers to the place, so that a write to the address may overtake it (R71 iv, D6). -/
def AwaitingLoc (s : State) (a : Nat) (l : Loc) : Prop :=
  ∃ r ∈ s.port.reads, r.addr = a ∧
    match r.dest with
    | .s n => l = .s n
    | .v n e => l = .v n e

/-- The reads outstanding after the reads `new`, a list of address and destination in order, have issued: the old ones and these, or under `CM_PROGRAM_ORDER` the old ones only (R71; log 17, log 19). -/
def ReadsAfter (s : State) (new : List PendingRead) : List PendingRead :=
  if s.params.cmProgramOrder then s.port.reads else s.port.reads ++ new

/-- An instruction of `len` parcels reads the word at the absolute address `a` into `S[i]` (R61, R71). -/
def ReadsWord (r : Result) (s : State) (i : Reg) (a : Addr) (len : Nat) : Prop :=
  Completes r s (fun l => l = .p ∨ l = .s i ∨ l = .reads)
    (fun t => MayLoad s a.toNat (t.S i) ∧ (s.waiting a.toNat = [] → t.S i = s.cm.read a.toNat) ∧
      t.port.reads = ReadsAfter s [{ addr := a.toNat, dest := .s i }] ∧
      t.p = s.p + BitVec.ofNat 32 len)

/-- What memory and port hold after the writes `new`, a list of address and value in order: they wait, or under `CM_PROGRAM_ORDER` they are complete with all that waited (R71). -/
def WroteWords (s t : State) (new : List (Nat × Word)) : Prop :=
  ∀ a, let values := s.waiting a ++ (new.filter (fun c => c.1 = a)).map (·.2)
    if s.params.cmProgramOrder then
      t.waiting a = [] ∧ if values = [] then t.cm.read a = s.cm.read a else t.cm.read a ∈ values
    else t.waiting a = values ∧ t.cm.read a = s.cm.read a

/-- An instruction of `len` parcels writes `v` to the word at the absolute address `a` (R61, R71, R77). -/
def StoresWord (r : Result) (s : State) (a : Addr) (v : Word) (len : Nat) : Prop :=
  Completes r s
    (fun l => l = .p ∨ l = .cm a.toNat ∨ l = .dirty ∨ AwaitingLoc s a.toNat l ∨
      (s.params.cmProgramOrder = true ∧ WaitingLoc s l))
    (fun t => WroteWords s t [(a.toNat, v)] ∧ (∀ b, b ∈ t.dirty ↔ b ∈ s.dirty ∨ b = a.toNat) ∧
      (∀ n, t.S n = s.S n ∨ t.S n = v) ∧ (∀ n e, t.V n e = s.V n e ∨ t.V n e = v) ∧
      t.p = s.p + BitVec.ofNat 32 len)

/-- The next state of a range error when the halt is disabled: the signal and P, beside what `extra` names (R61, R63). -/
def RangeSignalled (r : Result) (s : State) (len : Nat) (extra : Loc → Prop) (post : State → Prop) : Prop :=
  Completes r s (fun l => l = .p ∨ l = .rangeError ∨ extra l)
    (fun t => post t ∧ t.bps.rangeError = true ∧ t.p = s.p + BitVec.ofNat 32 len)

/-- The next state of a range error when the halt is enabled (R343). -/
def RangeHalted (r : Result) (s : State) (len : Nat) (extra : Loc → Prop) (post : State → Prop) : Prop :=
  Completes r s (fun l => StopLoc l ∨ WaitingLoc s l ∨ l = .rangeError ∨ extra l)
    (fun t => post t ∧ t.bps.rangeError = true ∧ Stopped .haltedRange len s t ∧ Landed s t)

/-! ## Families of instructions -/

/-- The absolute address of a store of `S[i]` to Common Memory, 061, 063, 065 and 067 (R60, R219, R221, R223, R225). -/
def ScalarStore (s : State) (x : Instr) (i : Reg) (a : Addr) : Prop :=
  (∃ j k, x = .storeSSum i j k ∧ a = s.ba + (s.A j + s.A k)) ∨ (∃ k, x = .storeSReg i k ∧ a = s.ba + s.A k) ∨
    (∃ k c, x = .storeSDisp i k c ∧ a = s.ba + (s.A k + c)) ∨ ∃ c, x = .storeSAbs i c ∧ a = s.ba + c

/-- The absolute address of a load from Common Memory into `S[i]`, 060, 062, 064 and 066 (R60, R218, R220, R222, R224). -/
def ScalarLoad (s : State) (x : Instr) (i : Reg) (a : Addr) : Prop :=
  (∃ j k, x = .loadSSum i j k ∧ a = s.ba + (s.A j + s.A k)) ∨ (∃ k, x = .loadSReg i k ∧ a = s.ba + s.A k) ∨
    (∃ k c, x = .loadSDisp i k c ∧ a = s.ba + (s.A k + c)) ∨ ∃ c, x = .loadSAbs i c ∧ a = s.ba + c

/-- The addresses of the elements of a vector reference to Common Memory, 070 to 073 (R60, R226 to R229). The offsets of 072 are the stream of log 27, and `V_SRC_EQ_DST` is not refuse where they are the destination's. -/
def VectorReference (s : State) (x : Instr) (i : Reg) (a : Elem → Addr) : Prop :=
  (∃ j k, (x = .loadVStride i j k ∨ x = .storeVStride i j k) ∧
      ∀ e : Elem, a e = s.ba + (s.A j + BitVec.ofNat 32 e.val * s.A k)) ∨
    (∃ j k, x = .gather i j k ∧ (i = j → s.params.vSrcEqDst ≠ .refuse) ∧
      ∀ e : Elem, a e = s.ba + (s.A k + BitVec.ofNat 32 (s.stream i j e).toNat)) ∨
    ∃ j k, x = .scatter i j k ∧ ∀ e : Elem, a e = s.ba + (s.A k + BitVec.ofNat 32 (s.V j e).toNat)

/-- The instructions that store to Common Memory: 061, 063, 065, 067, 071 and 073. -/
def CmStore (x : Instr) : Prop :=
  (∃ i j k, x = .storeSSum i j k) ∨ (∃ i k, x = .storeSReg i k) ∨ (∃ i k c, x = .storeSDisp i k c) ∨
    (∃ i c, x = .storeSAbs i c) ∨ (∃ i j k, x = .storeVStride i j k) ∨ ∃ i j k, x = .scatter i j k

/-- The instructions that load from Common Memory: 060, 062, 064, 066, 070 and 072. -/
def CmLoad (x : Instr) : Prop :=
  (∃ i j k, x = .loadSSum i j k) ∨ (∃ i k, x = .loadSReg i k) ∨ (∃ i k c, x = .loadSDisp i k c) ∨
    (∃ i c, x = .loadSAbs i c) ∨ (∃ i j k, x = .loadVStride i j k) ∨ ∃ i j k, x = .gather i j k

/-- The instructions of the floating-point units: 120 to 127, 132, 133, 154 to 157, 166, 167 and 170 to 175 (R152, R344). -/
def FloatingPoint (x : Instr) : Prop :=
  (∃ i j k, x = .faddS i j k ∨ x = .fsubS i j k ∨ x = .fmulS i j k ∨ x = .fmulS125 i j k ∨
      x = .recipIterS i j k ∨ x = .rsqrtIterS i j k) ∨
    (∃ i k, x = .fixS i k ∨ x = .fltS i k ∨ x = .recipS i k ∨ x = .rsqrtS i k) ∨
    (∃ i j k, x = .fmulSV i j k ∨ x = .fmulVV i j k ∨ x = .recipIterV i j k ∨ x = .rsqrtIterV i j k ∨
      x = .faddSV i j k ∨ x = .faddVV i j k ∨ x = .fsubSV i j k ∨ x = .fsubVV i j k) ∨
    ∃ i k, x = .recipV i k ∨ x = .rsqrtV i k ∨ x = .fnegV i k ∨ x = .fixV i k ∨ x = .fltV i k

/-- Instruction 000 in its three spellings (R160). -/
def ExitInstr (x : Instr) : Prop := x = .err ∨ x = .exit ∨ ∃ code, x = .exitExp code

/-! ## Floating-point values -/

/-- The value of a word, zero in class `underflow` (R132, R133). -/
def fpValue (x : Word) : ℚ :=
  if fpUnderflow x then 0
  else (if fpSign x then -1 else 1) * (fpCoef x : ℚ) / 2 ^ 48 * (2 : ℚ) ^ ((fpExp x : ℤ) - 0o40000)

/-- A normalised word with an exponent in range (R133, R134). -/
def FpRegular (x : Word) : Prop := fpOverflow x = false ∧ fpUnderflow x = false ∧ fpNormal x = true

/-! ## Encodings -/

/-- The parcels with code `f`, whatever their designators i, j, k and the parcels that follow, decode to `g`, and the code is `len` parcels long (R90, R92, R94, R95). -/
def Encodes (f : BitVec 7) (len : Nat) (g : Reg → Reg → Reg → Parcel → Parcel → Parcel → Parcel → Instr) : Prop :=
  parcelCount f = len ∧
    ∀ i j k m1 m2 m3 m4, decodeParcels (parcelOf f i j k) m1 m2 m3 m4 = g i j k m1 m2 m3 m4

/-- The field `jk` of two designators (R91). -/
def jkOf (j k : Reg) : BitVec 6 := (BitVec.ofFin j : BitVec 3) ++ (BitVec.ofFin k : BitVec 3)

/-! ## The invariant -/

/-- What holds of the machine at every moment: both memories are canonical and within their bounds, waiting writes are within installed memory, the Idle Mode flag is the run state, nothing is outstanding while idle or under `CM_PROGRAM_ORDER`, and a running processor has no outcome. -/
structure Invariant (s : State) : Prop where
  cmWf : Memory.wf s.params.cmWords s.cm = true
  lmWf : Memory.wf 16384 s.lm = true
  pendingInstalled : ∀ w ∈ s.port.writes, w.addr < s.params.cmWords
  idleFlag : s.run = .idle ↔ s.bps.idleMode = true
  idleQuiet : s.run = .idle → s.port = Port.empty
  orderedQuiet : s.params.cmProgramOrder = true → s.port = Port.empty
  runningOpen : s.run = .running → s.ended = none

/-! ## Safe runs -/

/-- A result that is no fault and no refusal. -/
def Proceeds : Result → Prop
  | .next _ => True
  | .fault _ => False
  | .refused _ => False

/-- Every number of steps from a state can be taken (R363: the run ends in idle mode or goes on). -/
def SafeRun (s : State) : Prop := ∀ n, Proceeds (Sys2Proof.core.run n s)

end Sys2Proof.Machine
end

