-- ==== Sys2Proof/Certificates/Slice0/Obligations.lean ====
section
/-! DEFINITION. The statements for the provers, from the numbered rules of spec/. -/

open Sys2Proof Sys2Proof.Machine

/-- Decoding an encoded instruction gives it back (R90, R91, R92, R94, R95, R99, R100; derived). For every well-formed instruction, with every operand at every value, decoding its encoding followed by any parcels gives the instruction and exactly those parcels. -/
def Obligations.DecodeEncodeRoundTrip : Prop :=
  ∀ (i : Instr) (rest : List Parcel), i.wf = true → decode (encode i ++ rest) = .ok (i, rest)

/-- Every parcel is the first parcel of a well-formed instruction of its own code (R93, R94, R100; derived). Decoding refuses a list of parcels only when it is shorter than its code requires; otherwise it gives a well-formed instruction whose encoding has the same code f, and leaves the parcels after the instruction. -/
def Obligations.EveryParcelDecodes : Prop :=
  (∀ (p : Parcel) (ms : List Parcel), parcelCount (fieldF p) ≤ ms.length + 1 →
    ∃ i : Instr, i.wf = true ∧ decode (p :: ms) = .ok (i, ms.drop (parcelCount (fieldF p) - 1)) ∧
      fieldF ((encode i).headD 0) = fieldF p ∧ (encode i).length = parcelCount (fieldF p)) ∧
  ∀ (p : Parcel) (ms : List Parcel), ms.length + 1 < parcelCount (fieldF p) →
    decode (p :: ms) = .error .truncated

/-- Words of the spec's listings decode to the instructions they stand for (R90, R95, R100; derived). The parcels 020123, 176123, 025400, 014010 with target 4, 042100 37777777776, 052200 10000300000, 143666, 163774, 173556 and 000004 decode to the instructions that the spec's examples name. -/
def Obligations.ListedWordsDecode : Prop :=
  decode [0o020123] = .ok (.addA 1 2 3, []) ∧
  decode [0o176123] = .ok (.iota 1 2 3, []) ∧
  decode [0o025400] = .ok (.moveVlA 4, []) ∧
  decode [0o014010, 0, 4] = .ok (.jzS 1 4, []) ∧
  decode [0o042100, 0o177777, 0o177776] = .ok (.halfA 1 0xFFFFFFFE, []) ∧
  decode [0o052200, 0o040001, 0o100000] = .ok (.leftS 2 0x40018000, []) ∧
  decode [0o143666] = .ok (.clearV 6, []) ∧
  decode [0o163774] = .ok (.negV 7 4, []) ∧
  decode [0o173556] = .ok (.fnegV 5 6, []) ∧
  decode [0o000004] = .ok (.exitExp 4, [])

/-- A step of a running processor runs the instruction decoded at P (R24, R39, R57, R71, R94, R95; derived). If the parcels at P, each in the field, in installed memory and not stored to, decode to an instruction and nothing is left over, a step is exec of it on the state with the free-value counter increased and with the outstanding reads into the registers it names completed; nothing else is changed before exec. -/
def Obligations.StepRunsDecodedInstruction : Prop :=
  ∀ (s : State) (ps : List Parcel) (i : Instr), s.run = .running → decode ps = .ok (i, []) →
    (∀ (q : Nat) (h : q < ps.length), s.fetchParcel (s.p + BitVec.ofNat 32 q) =
      { parcel := ps[q], outOfField := false, missing := false, stale := false }) →
    step s = exec i (s.tick.issue i) ∧
    Frame (fun l => l = .draws ∨ l = .reads) s (s.tick.issue i) ∧
    (s.tick.issue i).draws = s.draws + 1 ∧
    ∀ r, r ∈ (s.tick.issue i).port.reads ↔ r ∈ s.port.reads ∧ r.dest.register ∉ registersNamed i

/-- A parcel is fetched relative to BA, checked against BA and LA, and taken from its place in the word (R54, R55, R56, R57, R77; derived). The word of parcel address p is at BA + p/4 modulo 2^32; in the field the fetch gives parcel p mod 4 of it, counted from the high end under high_first and from the low end under low_first; out of the field it gives the zero parcel and a range error. That a fetch is relocated and checked like a data reference is the spec's own reading D4 (log 12), the order of the parcels its switch D1 (log 9). In the field the fetch is marked stale exactly where the word has been stored to in this computation period, the model's choice of log 22 (D8), and missing exactly where no storage is installed, the model's choice of log 42. -/
def Obligations.FetchIsRelocatedAndChecked : Prop :=
  ∀ (s : State) (p a : Addr), a = s.ba + BitVec.ofNat 32 (p.toNat / 4) →
    (InRange s a →
      (s.fetchParcel p).outOfField = false ∧
      ((s.fetchParcel p).stale = true ↔ a.toNat ∈ s.dirty) ∧
      ((s.fetchParcel p).missing = true ↔ s.params.cmWords ≤ a.toNat) ∧
      (s.params.parcelOrder = .highFirst →
        (s.fetchParcel p).parcel.toNat = (s.cm.read a.toNat).toNat / 2 ^ (48 - 16 * (p.toNat % 4)) % 2 ^ 16) ∧
      (s.params.parcelOrder = .lowFirst →
        (s.fetchParcel p).parcel.toNat = (s.cm.read a.toNat).toNat / 2 ^ (16 * (p.toNat % 4)) % 2 ^ 16)) ∧
    (¬ InRange s a → (s.fetchParcel p).parcel = 0 ∧ (s.fetchParcel p).outOfField = true)

/-- A fetch outside the field is signalled: at P it ends the run as an error exit or a halt, at a constant parcel it halts the run or reads as zero (R57, R95, R160, R343, R347; derived). When P leads outside the field, the range error is signalled; with the halt disabled the step is the error exit with code 0, with it enabled the step halts with a range error and writes no exit field. When one or more of the parcels of the instruction at P, the parcel at P or a constant parcel, lie outside the field, each of them reads as zero (FetchIsRelocatedAndChecked); with the halt enabled the step signals the range error, halts and does nothing else; with it disabled the step signals it and runs the instruction so read. That a fetch is checked and ends so rests on the spec's own readings D4 and D20 (log 12), for a constant parcel on the model's inference of log 13; that nothing is outstanding after the halt rests on D13 (log 28, log 30), and that P is at the instruction or past it is the model's reading of log 29. -/
def Obligations.FetchOutOfFieldEndsTheRun : Prop :=
  (∀ s : State, s.run = .running → ¬ InRange s (s.ba + BitVec.ofNat 32 (s.p.toNat / 4)) →
    ∃ t, step s = .next t ∧ t.bps.rangeError = true ∧ t.run = .idle ∧ t.bps.idleMode = true ∧ t.port = Port.empty ∧
      (s.bps.rangeHaltEnable = false → t.ended = some (.exited 0) ∧ t.bps.exitCode = 0 ∧ t.bps.exitMode = true) ∧
      (s.bps.rangeHaltEnable = true → t.ended = some .haltedRange ∧ t.bps.exitCode = s.bps.exitCode ∧
        t.bps.exitMode = s.bps.exitMode)) ∧
  ∀ (s : State) (ps : List Parcel) (i : Instr), s.run = .running → decode ps = .ok (i, []) →
    (∀ (q : Nat) (h : q < ps.length),
      (s.fetchParcel (s.p + BitVec.ofNat 32 q)).parcel = ps[q] ∧
      (s.fetchParcel (s.p + BitVec.ofNat 32 q)).missing = false ∧
      (s.fetchParcel (s.p + BitVec.ofNat 32 q)).stale = false) →
    (∃ q, q < ps.length ∧ ¬ InRange s (s.ba + BitVec.ofNat 32 ((s.p + BitVec.ofNat 32 q).toNat / 4))) →
    (s.bps.rangeHaltEnable = true → RangeHalted (step s) s ps.length (fun l => l = .draws) (fun _ => True)) ∧
    (s.bps.rangeHaltEnable = false → step s = exec i (s.tick.signalRange.issue i))

/-- An idle processor does nothing, and a fetch of a word stored to in the period is refused (R32, R77, R95, R362, R363; derived). The model's choices of log 6 and log 22: a step in idle mode leaves the state as it is; a running processor whose instruction has a parcel, the parcel at P or a constant parcel, in a word stored to in this computation period is refused by the name selfModifiedCode. -/
def Obligations.IdleStepsAndStaleFetches : Prop :=
  (∀ s : State, s.run = .idle → step s = .next s) ∧
  ∀ (s : State) (q : Nat), s.run = .running → q < parcelCount (fieldF (s.fetchParcel s.p).parcel) →
    (s.fetchParcel (s.p + BitVec.ofNat 32 q)).stale = true → step s = .refused .selfModifiedCode

/-- After reset the processor is idle with nothing outstanding and no outcome (R381, R382; derived). State.reset is in idle mode, with the Idle Mode flag, no outstanding reference, no word counted as stored to and no outcome. (The Idle Mode flag is DEDUCED, log 2. That nothing is outstanding, no word counted as stored to and no outcome held is the model's choice, log 59: R382 calls these unspecified after deadstart.) -/
def Obligations.ResetIsIdle : Prop :=
  State.reset.run = .idle ∧ State.reset.bps.idleMode = true ∧ State.reset.port = Port.empty ∧
    State.reset.dirty = [] ∧ State.reset.ended = none

/-- The invariant of the machine holds at reset (R381, R382; derived). Both memories are canonical, the Idle Mode flag agrees with the run state, and nothing is outstanding, in State.reset; its values where the spec gives none are the model's choices of log 1 and log 3, and that nothing is outstanding is its choice of log 59. -/
def Obligations.InvariantHoldsAtReset : Prop :=
  Invariant State.reset

/-- Every step keeps the invariant of the machine (R32, R34, R59, R71, R341, R343, R353; derived). From every state with the invariant, a step that answers a next state answers one with the invariant: both memories stay canonical and within their bounds, waiting writes stay within installed memory, the Idle Mode flag stays the run state, nothing is outstanding while idle or under CM_PROGRAM_ORDER, and a running processor has no outcome. -/
def Obligations.EveryStepKeepsTheInvariant : Prop :=
  ∀ s t : State, Invariant s → step s = .next t → Invariant t

/-- A launch sets what the launch record says and starts an idle processor, and leaves a running one as it is (R352, R353, R382, R384, R385; derived). The model's launch (log 54): from an idle state with the invariant, a well-formed launch record gives a running state with the invariant and no outcome, with P, BA, LA, the semaphore assignment and the assigned flag, the enables, the Shared registers and every word of the image as recorded; the other status fields are 0, the port and the set of words stored to are empty, as R382 takes them. A, S, V, VL, VM, the last clock reading, Local Memory, every word of Common Memory outside the image and the other semaphore flags are as before, which is the model's choice (log 54), since R382 gives them no value. On a running processor a launch changes nothing, so BA and LA stay as they are while it runs (R353); that it has no other effect there is the model's choice (log 54), since R352 describes no action on a running processor. -/
def Obligations.LaunchStartsAComputationPeriod : Prop :=
  (∀ (s : State) (r : LaunchRecord), s.run = .running → s.launch r = s) ∧
  ∀ (s : State) (r : LaunchRecord), Invariant s → s.run = .idle → r.wellFormed s.params = true →
    Invariant (s.launch r) ∧ (s.launch r).run = .running ∧ (s.launch r).ended = none ∧
    (s.launch r).p = r.p0 ∧ (s.launch r).ba = r.ba ∧ (s.launch r).la = r.la ∧
    (s.launch r).bps.semSelect = r.semSelect ∧ (s.launch r).semf = r.sem0 ∧
    (∀ n, n ≠ r.semSelect → (s.launch r).sem.get n = s.sem.get n) ∧
    (s.launch r).bps.rangeHaltEnable = r.rangeHalt0 ∧ (s.launch r).bps.fpEnable = r.fpEnable0 ∧
    (s.launch r).bps.exitMode = false ∧ (s.launch r).bps.idleMode = false ∧ (s.launch r).bps.exitCode = 0 ∧
    (s.launch r).bps.semBit = false ∧ (s.launch r).bps.rangeError = false ∧ (s.launch r).bps.fpError = false ∧
    (∀ n, (s.launch r).sr.get n = r.sr0.get n) ∧
    (r.image.Pairwise (fun c d => c.1 ≠ d.1) → ∀ c ∈ r.image, (s.launch r).cm.read (r.ba.toNat + c.1) = c.2) ∧
    (∀ a, (∀ c ∈ r.image, r.ba.toNat + c.1 ≠ a) → (s.launch r).cm.read a = s.cm.read a) ∧
    (s.launch r).port = Port.empty ∧ (s.launch r).dirty = [] ∧
    (∀ n, (s.launch r).A n = s.A n ∧ (s.launch r).S n = s.S n ∧ ∀ e, (s.launch r).V n e = s.V n e) ∧
    (s.launch r).vl = s.vl ∧ (s.launch r).vm = s.vm ∧ (s.launch r).rtc = s.rtc ∧ (s.launch r).lm = s.lm ∧
    (s.launch r).params = s.params

/-- No step changes BA, LA, the semaphore assignment or a parameter (R25, R26, R28, R42, R353; derived). Whatever a step does, BA, LA, the semaphore flag assigned to the processor and the machine parameters are what they were. -/
def Obligations.FieldAndAssignmentAreFixed : Prop :=
  ∀ s t : State, step s = .next t →
    t.ba = s.ba ∧ t.la = s.la ∧ t.bps.semSelect = s.bps.semSelect ∧ t.params = s.params

/-- VL is written by 036 and 037 only, VM by 030 to 034 only, the last clock reading by 115 only (R36, R37, R42; derived). If an instruction answers a next state with another VL it is 036 or 037; with another VM it is one of 030 to 034; with another last clock reading it is 115. The hardware's clock counts by itself and no instruction writes it (R27); the clause on it is about the model's field, which holds the last value read (log 31). -/
def Obligations.WhoWritesTheVectorControls : Prop :=
  ∀ (i : Instr) (s t : State), exec i s = .next t →
    (t.vl ≠ s.vl → ∃ k, i = .moveAVl k ∨ i = .moveAVl037 k) ∧
    (t.vm ≠ s.vm → ∃ n, i = .vmZero n ∨ i = .vmNonzero n ∨ i = .vmPositive n ∨ i = .vmNegative n ∨ i = .moveSVm n) ∧
    (t.rtc ≠ s.rtc → ∃ n, i = .moveRtS n)

/-- Each field of the status register is written by its own instructions only (R30, R31, R42, R165, R166, R167, R168, R342, R343, R344; derived). If an instruction answers a next state, the exit mode and code change only by 000, the idle mode only by 000, by 060 to 067 or 070 to 073 with the range halt enabled, or by a floating-point instruction with its enable on, the enables only by 035, the semaphore bit and the flags only by 004 to 007, the semaphore assignment never; the range error signal changes only by 060 to 067 and 070 to 073, the floating-point error signal only by a floating-point instruction with its enable on. No instruction clears idle mode; that none clears an error signal is the model's choice, which latches the two signals (log 25; R30 leaves it open). (A fetch out of the field also sends the range error: FetchOutOfFieldEndsTheRun.) -/
def Obligations.WhoWritesTheStatusRegister : Prop :=
  ∀ (i : Instr) (s t : State), exec i s = .next t →
    (t.bps.exitMode ≠ s.bps.exitMode ∨ t.bps.exitCode ≠ s.bps.exitCode → ExitInstr i) ∧
    (t.bps.idleMode ≠ s.bps.idleMode → t.bps.idleMode = true ∧
      (ExitInstr i ∨ ((CmLoad i ∨ CmStore i) ∧ s.bps.rangeHaltEnable = true) ∨
        (FloatingPoint i ∧ s.bps.fpEnable = true))) ∧
    (t.bps.rangeHaltEnable ≠ s.bps.rangeHaltEnable → i = .dri ∨ i = .eri) ∧
    (t.bps.fpEnable ≠ s.bps.fpEnable → i = .dfi ∨ i = .efi) ∧
    (t.bps.semBit ≠ s.bps.semBit ∨ t.sem ≠ s.sem → i = .ssm ∨ i = .csm ∨ ∃ c, i = .jcs c ∨ i = .jss c) ∧
    t.bps.semSelect = s.bps.semSelect ∧
    (t.bps.rangeError ≠ s.bps.rangeError → t.bps.rangeError = true ∧ (CmLoad i ∨ CmStore i)) ∧
    (t.bps.fpError ≠ s.bps.fpError → t.bps.fpError = true ∧ FloatingPoint i ∧ s.bps.fpEnable = true)

/-- A running processor becomes idle by an exit or by an enabled error only (R32, R341, R343, R344, R353; derived). If an instruction takes a running processor to idle mode, the outcome is recorded: an exit by 000 with its code, a range halt with the halt enabled and the signal sent, or a floating-point halt with the enable on and the signal sent. -/
def Obligations.HowAComputationPeriodEnds : Prop :=
  ∀ (i : Instr) (s t : State), s.run = .running → exec i s = .next t → t.run = .idle →
    (∃ code, t.ended = some (.exited code) ∧ t.bps.exitCode = code ∧ t.bps.exitMode = true ∧
      (i = .exitExp code ∨ (i = .err ∧ code = 0) ∨ (i = .exit ∧ code = 1))) ∨
    (t.ended = some .haltedRange ∧ s.bps.rangeHaltEnable = true ∧ t.bps.rangeError = true) ∨
    (t.ended = some .haltedFp ∧ s.bps.fpEnable = true ∧ t.bps.fpError = true)

/-- Local Memory is written by 045, 047, 055, 057 and 075 only, Common Memory by 061, 063, 065, 067, 071 and 073 only (R33, R42, R50, R64; derived). If an instruction answers a next state in which a Local Memory word differs it is one of the five Local Memory stores; if what waits for a Common Memory word differs and is not empty, or the word itself holds a value that it neither held nor had waiting before, or the set of words stored to differs, it is one of the six Common Memory stores. (A word that waits reaches memory at 001, 007 and a stop: log 20.) -/
def Obligations.WhoWritesTheMemories : Prop :=
  ∀ (i : Instr) (s t : State), exec i s = .next t →
    ((∃ a, t.lm.read a ≠ s.lm.read a) →
      (∃ k m, i = .storeALm k m) ∨ (∃ j k, i = .storeALmReg j k) ∨ (∃ j m, i = .storeSLm j m) ∨
        (∃ n k, i = .storeSLmReg n k) ∨ ∃ n k, i = .storeVLm n k) ∧
    ((∃ a, t.waiting a ≠ s.waiting a ∧ t.waiting a ≠ []) → CmStore i) ∧
    ((∃ a, t.cm.read a ∉ s.waiting a ∧ t.cm.read a ≠ s.cm.read a) → CmStore i) ∧
    (t.dirty ≠ s.dirty → CmStore i)

/-- 000 stops the processor with its code, every earlier write complete (R30, R160, R341, R348, R349; derived). `exit exp`, `err` and `exit` set the exit mode, the exit code (jk, 0 and 1) and idle mode, complete every waiting write and leave everything else; P is at the 000 or past it (the model's reading of the open point D18, log 29). That every earlier write is complete, and nothing outstanding, is the spec's decision D13 (R160, R348; log 30, DEDUCED). -/
def Obligations.ExitStopsWithItsCode : Prop :=
  (∀ i j k m1 m2 m3 m4, decodeParcels (parcelOf 0o000 i j k) m1 m2 m3 m4 =
    if jkOf j k = 0 then .err else if jkOf j k = 1 then .exit else .exitExp (jkOf j k)) ∧
  ∀ (s : State) (i : Instr) (code : BitVec 6),
    (i = .exitExp code ∨ (i = .err ∧ code = 0) ∨ (i = .exit ∧ code = 1)) →
    Completes (exec i s) s (fun l => StopLoc l ∨ WaitingLoc s l ∨ l = .exitMode ∨ l = .exitCode)
      (fun t => t.bps.exitMode = true ∧ t.bps.exitCode = code ∧ Stopped (.exited code) 1 s t ∧ Landed s t)

/-- CMR leaves no Common Memory reference outstanding and changes nothing else (R71, R73, R161; derived). After 001 no write waits and no read is outstanding; each word with waiting writes holds one of their values, every other word and everything else is as before. -/
def Obligations.HoldMemoryCompletesReferences : Prop :=
  Encodes 0o001 1 (fun _ _ _ _ _ _ _ => .cmr) ∧
  ∀ s : State, Completes (exec .cmr s) s (fun l => l = .p ∨ l = .reads ∨ WaitingLoc s l)
    (fun t => t.port = Port.empty ∧ Landed s t ∧ t.p = s.p + 1)

/-- With CMR between them a scalar load returns the word that a scalar store wrote (R71, R73, R392; derived). A store of S[i] by any of 061, 063, 065 and 067 to an address in the field where storage is installed and for which nothing waits, then 001, then a load of the same address into S[j] by any of 060, 062, 064 and 066: all three complete in the field and S[j] is the stored word. -/
def Obligations.StoreHoldLoadReturnsTheStoredWord : Prop :=
  ∀ (s : State) (x y : Instr) (i j : Reg) (a : Addr), ScalarStore s x i a → ScalarLoad s y j a →
    Installed s a → s.waiting a.toNat = [] →
    ∃ t u w, exec x s = .next t ∧ exec .cmr t = .next u ∧ exec y u = .next w ∧ w.S j = s.S i

/-- 002 jumps to A[k] and links in A[i], 003 jumps to its constant (R162, R163; stated). Every parcel with code 002 is `r,ai ak`, or `j ak` where i = k, and every parcel with code 003 is `j exp` with target m1:m2, whatever their ignored fields; 002 sets P to the old A[k] and A[i] to p + 1, 003 sets P to the constant; nothing else changes. -/
def Obligations.JumpsTransferControl : Prop :=
  Encodes 0o002 1 (fun i _ k _ _ _ _ => if i = k then .jumpReg k else .jumpLink i k) ∧
  Encodes 0o003 3 (fun _ _ _ m1 m2 _ _ => .jump (m1 ++ m2)) ∧
  ∀ (s : State) (i k : Reg) (c : BitVec 32),
    Completes (exec (.jumpLink i k) s) s (fun l => l = .p ∨ l = .a i) (fun t => t.p = s.A k ∧ t.A i = s.p + 1) ∧
    Completes (exec (.jumpReg k) s) s (fun l => l = .p ∨ l = .a k) (fun t => t.p = s.A k ∧ t.A k = s.p + 1) ∧
    Completes (exec (.jump c) s) s (fun l => l = .p) (fun t => t.p = c)

/-- 010 to 013 branch on A[k] being zero, nonzero, positive or negative (R124, R169, R170, R171, R172; derived). The codes 010 to 013 take k and the constant m1:m2; P becomes the constant where A[k] is zero, nonzero, not negative, negative as a two's complement number, and p + 3 otherwise; nothing else changes. (That zero counts as positive for 012 is the spec's own decision D2, log 10.) -/
def Obligations.BranchesTestAnAddressRegister : Prop :=
  Encodes 0o010 3 (fun _ _ k m1 m2 _ _ => .jzA k (m1 ++ m2)) ∧
  Encodes 0o011 3 (fun _ _ k m1 m2 _ _ => .jnA k (m1 ++ m2)) ∧
  Encodes 0o012 3 (fun _ _ k m1 m2 _ _ => .jpA k (m1 ++ m2)) ∧
  Encodes 0o013 3 (fun _ _ k m1 m2 _ _ => .jmA k (m1 ++ m2)) ∧
  ∀ (s : State) (k : Reg) (c : BitVec 32),
    Completes (exec (.jzA k c) s) s (fun l => l = .p) (fun t => t.p = if s.A k = 0 then c else s.p + 3) ∧
    Completes (exec (.jnA k c) s) s (fun l => l = .p) (fun t => t.p = if s.A k = 0 then s.p + 3 else c) ∧
    Completes (exec (.jpA k c) s) s (fun l => l = .p) (fun t => t.p = if 0 ≤ (s.A k).toInt then c else s.p + 3) ∧
    Completes (exec (.jmA k c) s) s (fun l => l = .p) (fun t => t.p = if (s.A k).toInt < 0 then c else s.p + 3)

/-- 014 to 017 branch on S[j] being zero, nonzero, positive or negative (R124, R173, R174, R175, R176; derived). The codes 014 to 017 take j and the constant m1:m2; P becomes the constant where S[j] is zero, nonzero, not negative, negative as a two's complement number, and p + 3 otherwise; nothing else changes. (That zero counts as positive for 016 is the spec's own decision D2, log 10.) -/
def Obligations.BranchesTestAScalarRegister : Prop :=
  Encodes 0o014 3 (fun _ j _ m1 m2 _ _ => .jzS j (m1 ++ m2)) ∧
  Encodes 0o015 3 (fun _ j _ m1 m2 _ _ => .jnS j (m1 ++ m2)) ∧
  Encodes 0o016 3 (fun _ j _ m1 m2 _ _ => .jpS j (m1 ++ m2)) ∧
  Encodes 0o017 3 (fun _ j _ m1 m2 _ _ => .jmS j (m1 ++ m2)) ∧
  ∀ (s : State) (j : Reg) (c : BitVec 32),
    Completes (exec (.jzS j c) s) s (fun l => l = .p) (fun t => t.p = if s.S j = 0 then c else s.p + 3) ∧
    Completes (exec (.jnS j c) s) s (fun l => l = .p) (fun t => t.p = if s.S j = 0 then s.p + 3 else c) ∧
    Completes (exec (.jpS j c) s) s (fun l => l = .p) (fun t => t.p = if 0 ≤ (s.S j).toInt then c else s.p + 3) ∧
    Completes (exec (.jmS j c) s) s (fun l => l = .p) (fun t => t.p = if (s.S j).toInt < 0 then c else s.p + 3)

/-- 004, 005 and 006 set the assigned flag and, if it was clear, the semaphore bit (R75, R165, R166, R167; derived). 004 branches where the assigned flag was clear, 005 where it was set; 004, 005 and 006 leave it set; the semaphore bit of the status register becomes 1 where the flag was clear and stays otherwise; nothing else changes. (The one indivisible action is the spec's decision D19, log 53.) -/
def Obligations.SemaphoreIsTestedAndSet : Prop :=
  Encodes 0o004 3 (fun _ _ _ m1 m2 _ _ => .jcs (m1 ++ m2)) ∧
  Encodes 0o005 3 (fun _ _ _ m1 m2 _ _ => .jss (m1 ++ m2)) ∧
  Encodes 0o006 1 (fun _ _ _ _ _ _ _ => .ssm) ∧
  ∀ (s : State) (c : BitVec 32) (old : Bool), old = s.sem.get s.bps.semSelect →
    Completes (exec (.jcs c) s) s (fun l => l = .p ∨ l = .sem s.bps.semSelect ∨ l = .semBit)
      (fun t => t.sem.get s.bps.semSelect = true ∧ t.bps.semBit = (if old then s.bps.semBit else true) ∧
        t.p = if old then s.p + 3 else c) ∧
    Completes (exec (.jss c) s) s (fun l => l = .p ∨ l = .sem s.bps.semSelect ∨ l = .semBit)
      (fun t => t.sem.get s.bps.semSelect = true ∧ t.bps.semBit = (if old then s.bps.semBit else true) ∧
        t.p = if old then c else s.p + 3) ∧
    Completes (exec .ssm s) s (fun l => l = .p ∨ l = .sem s.bps.semSelect ∨ l = .semBit)
      (fun t => t.sem.get s.bps.semSelect = true ∧ t.bps.semBit = (if old then s.bps.semBit else true) ∧
        t.p = s.p + 1)

/-- 007 completes the earlier writes, then clears the assigned flag and the semaphore bit (R71, R74, R168; derived). After 007 the assigned flag and the semaphore bit are 0 and no write waits; each word with waiting writes holds one of their values. The reads stay outstanding, which is the model's choice (log 21). Nothing else changes. -/
def Obligations.ClearingTheSemaphoreCompletesWrites : Prop :=
  Encodes 0o007 1 (fun _ _ _ _ _ _ _ => .csm) ∧
  ∀ s : State,
    Completes (exec .csm s) s (fun l => l = .p ∨ l = .sem s.bps.semSelect ∨ l = .semBit ∨ WaitingLoc s l)
      (fun t => t.sem.get s.bps.semSelect = false ∧ t.bps.semBit = false ∧ t.port.writes = [] ∧ Landed s t ∧
        t.p = s.p + 1)

/-- 020 to 023 write the 32-bit sum, difference and product (R180, R181, R182, R183; stated). The codes 020 to 023 take i, j, k; A[i] receives the sum, the difference, and for 022 and 023 the product of A[j] and A[k] modulo 2^32, the operands read before the result is written; nothing else but P changes. -/
def Obligations.AddressArithmeticWraps : Prop :=
  Encodes 0o020 1 (fun i j k _ _ _ _ => .addA i j k) ∧ Encodes 0o021 1 (fun i j k _ _ _ _ => .subA i j k) ∧
  Encodes 0o022 1 (fun i j k _ _ _ _ => .mulA i j k) ∧ Encodes 0o023 1 (fun i j k _ _ _ _ => .mulA023 i j k) ∧
  ∀ (s : State) (i j k : Reg),
    WritesA (exec (.addA i j k) s) s i (BitVec.ofNat 32 ((s.A j).toNat + (s.A k).toNat)) 1 ∧
    WritesA (exec (.subA i j k) s) s i (BitVec.ofInt 32 ((s.A j).toInt - (s.A k).toInt)) 1 ∧
    WritesA (exec (.mulA i j k) s) s i (BitVec.ofNat 32 ((s.A j).toNat * (s.A k).toNat)) 1 ∧
    WritesA (exec (.mulA023 i j k) s) s i (BitVec.ofNat 32 ((s.A j).toNat * (s.A k).toNat)) 1

/-- 024 to 027 and 040 to 043 enter transfers and constants into A[i] (R184, R185, R186, R187, R199, R200, R201, R202; stated). A[i] receives the low 32 bits of S[j] (024), the VL register zero-extended (025), jk with the upper bits zero (026) or one (027), m1 with the upper bits zero (040) or one (041), or m1:m2 (042, 043); P moves past the 1, 2 or 3 parcels; nothing else changes. -/
def Obligations.AddressRegistersAreEntered : Prop :=
  Encodes 0o024 1 (fun i j _ _ _ _ _ => .moveSA i j) ∧ Encodes 0o025 1 (fun i _ _ _ _ _ _ => .moveVlA i) ∧
  Encodes 0o026 1 (fun i j k _ _ _ _ => .shortA i (jkOf j k)) ∧
  Encodes 0o027 1 (fun i j k _ _ _ _ => .shortNegA i (jkOf j k)) ∧
  Encodes 0o040 2 (fun i _ _ m1 _ _ _ => .parcelA i m1) ∧ Encodes 0o041 2 (fun i _ _ m1 _ _ _ => .parcelNegA i m1) ∧
  Encodes 0o042 3 (fun i _ _ m1 m2 _ _ => .halfA i (m1 ++ m2)) ∧
  Encodes 0o043 3 (fun i _ _ m1 m2 _ _ => .halfA043 i (m1 ++ m2)) ∧
  ∀ (s : State) (i j : Reg) (jk : BitVec 6) (m : Parcel) (c : BitVec 32),
    WritesA (exec (.moveSA i j) s) s i (BitVec.ofNat 32 ((s.S j).toNat % 2 ^ 32)) 1 ∧
    WritesA (exec (.moveVlA i) s) s i (BitVec.ofNat 32 s.vl.toNat) 1 ∧
    WritesA (exec (.shortA i jk) s) s i (BitVec.ofNat 32 jk.toNat) 1 ∧
    WritesA (exec (.shortNegA i jk) s) s i (0xFFFFFFC0 + BitVec.ofNat 32 jk.toNat) 1 ∧
    WritesA (exec (.parcelA i m) s) s i (BitVec.ofNat 32 m.toNat) 2 ∧
    WritesA (exec (.parcelNegA i m) s) s i (0xFFFF0000 + BitVec.ofNat 32 m.toNat) 2 ∧
    WritesA (exec (.halfA i c) s) s i c 3 ∧
    WritesA (exec (.halfA043 i c) s) s i c 3

/-- 030 to 033 set VM from a test of the elements in force, 034 from S[j]; 036 and 037 set VL; VL 0 means 64 elements (R37, R129, R130, R188, R189, R190, R191, R192, R197, R198, R207; derived). After 030 to 033 the bit of VM for element e is 1 exactly where e is below the vector length and the element of V[k] is zero, nonzero, not negative or negative; 034 copies S[j]; 036 and 037 copy the low 6 bits of A[k] into VL; the vector length in force is 64 where VL is 0 and else the value of VL, and an instruction uses it as it is at issue; nothing else but P changes. (Zero as positive is the spec's decision D2, log 10.) -/
def Obligations.VectorMaskAndLengthAreSet : Prop :=
  Encodes 0o030 1 (fun _ _ k _ _ _ _ => .vmZero k) ∧ Encodes 0o031 1 (fun _ _ k _ _ _ _ => .vmNonzero k) ∧
  Encodes 0o032 1 (fun _ _ k _ _ _ _ => .vmPositive k) ∧ Encodes 0o033 1 (fun _ _ k _ _ _ _ => .vmNegative k) ∧
  Encodes 0o034 1 (fun _ j _ _ _ _ _ => .moveSVm j) ∧
  Encodes 0o036 1 (fun _ _ k _ _ _ _ => .moveAVl k) ∧ Encodes 0o037 1 (fun _ _ k _ _ _ _ => .moveAVl037 k) ∧
  ∀ (s : State) (j k : Reg),
    s.vlen = (if s.vl = 0 then 64 else s.vl.toNat) ∧
    Completes (exec (.vmZero k) s) s (fun l => l = .p ∨ l = .vm)
      (fun t => (∀ e : Elem, t.vm.getLsbD (63 - e.val) = true ↔ e.val < s.vlen ∧ s.V k e = 0) ∧ t.p = s.p + 1) ∧
    Completes (exec (.vmNonzero k) s) s (fun l => l = .p ∨ l = .vm)
      (fun t => (∀ e : Elem, t.vm.getLsbD (63 - e.val) = true ↔ e.val < s.vlen ∧ s.V k e ≠ 0) ∧ t.p = s.p + 1) ∧
    Completes (exec (.vmPositive k) s) s (fun l => l = .p ∨ l = .vm)
      (fun t => (∀ e : Elem, t.vm.getLsbD (63 - e.val) = true ↔ e.val < s.vlen ∧ 0 ≤ (s.V k e).toInt) ∧
        t.p = s.p + 1) ∧
    Completes (exec (.vmNegative k) s) s (fun l => l = .p ∨ l = .vm)
      (fun t => (∀ e : Elem, t.vm.getLsbD (63 - e.val) = true ↔ e.val < s.vlen ∧ (s.V k e).toInt < 0) ∧
        t.p = s.p + 1) ∧
    Completes (exec (.moveSVm j) s) s (fun l => l = .p ∨ l = .vm) (fun t => t.vm = s.S j ∧ t.p = s.p + 1) ∧
    Completes (exec (.moveAVl k) s) s (fun l => l = .p ∨ l = .vl)
      (fun t => t.vl.toNat = (s.A k).toNat % 64 ∧ t.p = s.p + 1) ∧
    Completes (exec (.moveAVl037 k) s) s (fun l => l = .p ∨ l = .vl)
      (fun t => t.vl.toNat = (s.A k).toNat % 64 ∧ t.p = s.p + 1)

/-- 035 with k = 0 to 3 writes one enable each (R193, R194, R195, R196; derived). `dri` and `eri` write the halt enable for range errors, `dfi` and `efi` the enable for floating-point errors, and nothing else but P changes. (That `eri` acts on later errors only, so that it changes nothing but the enable, is the spec's decision D29, log 47. What the enables do is said by the statements about range errors and floating-point errors.) -/
def Obligations.HaltEnablesAreSet : Prop :=
  (∀ i j m1 m2 m3 m4, decodeParcels (parcelOf 0o035 i j 0) m1 m2 m3 m4 = .dri ∧
    decodeParcels (parcelOf 0o035 i j 1) m1 m2 m3 m4 = .eri ∧
    decodeParcels (parcelOf 0o035 i j 2) m1 m2 m3 m4 = .dfi ∧
    decodeParcels (parcelOf 0o035 i j 3) m1 m2 m3 m4 = .efi) ∧ parcelCount 0o035 = 1 ∧
  ∀ s : State,
    Completes (exec .dri s) s (fun l => l = .p ∨ l = .rangeHaltEnable)
      (fun t => t.bps.rangeHaltEnable = false ∧ t.p = s.p + 1) ∧
    Completes (exec .eri s) s (fun l => l = .p ∨ l = .rangeHaltEnable)
      (fun t => t.bps.rangeHaltEnable = true ∧ t.p = s.p + 1) ∧
    Completes (exec .dfi s) s (fun l => l = .p ∨ l = .fpEnable) (fun t => t.bps.fpEnable = false ∧ t.p = s.p + 1) ∧
    Completes (exec .efi s) s (fun l => l = .p ∨ l = .fpEnable) (fun t => t.bps.fpEnable = true ∧ t.p = s.p + 1)

/-- 044, 046, 054 and 056 read a Local Memory word into a register (R65, R66, R203, R205, R214, R216; derived). Where the address (m1 or A[k]) has a place in Local Memory, A[i] receives the low 32 bits of the word there (044, 046) or S[i] the word (054, 056); nothing else but P changes. -/
def Obligations.LocalMemoryLoads : Prop :=
  Encodes 0o044 2 (fun i _ _ m1 _ _ _ => .loadALm i m1) ∧ Encodes 0o046 1 (fun i _ k _ _ _ _ => .loadALmReg i k) ∧
  Encodes 0o054 2 (fun i _ _ m1 _ _ _ => .loadSLm i m1) ∧ Encodes 0o056 1 (fun i _ k _ _ _ _ => .loadSLmReg i k) ∧
  ∀ (s : State) (i k : Reg) (m : Parcel) (n : Nat),
    (LmPlace s (parcelConst m) n →
      WritesA (exec (.loadALm i m) s) s i (BitVec.ofNat 32 (s.lm.read n).toNat) 2 ∧
      WritesS (exec (.loadSLm i m) s) s i (s.lm.read n) 2) ∧
    (LmPlace s (s.A k) n →
      WritesA (exec (.loadALmReg i k) s) s i (BitVec.ofNat 32 (s.lm.read n).toNat) 1 ∧
      WritesS (exec (.loadSLmReg i k) s) s i (s.lm.read n) 1)

/-- 045, 047, 055 and 057 write one Local Memory word (R65, R66, R204, R206, R215, R217; derived). Where the address has a place in Local Memory, the word there becomes A[k] or A[j] sign-extended (045, 047) or S[j] or S[i] (055, 057); every other word of either memory and everything else but P is as before. -/
def Obligations.LocalMemoryStores : Prop :=
  Encodes 0o045 2 (fun _ _ k m1 _ _ _ => .storeALm k m1) ∧ Encodes 0o047 1 (fun _ j k _ _ _ _ => .storeALmReg j k) ∧
  Encodes 0o055 2 (fun _ j _ m1 _ _ _ => .storeSLm j m1) ∧ Encodes 0o057 1 (fun i _ k _ _ _ _ => .storeSLmReg i k) ∧
  ∀ (s : State) (i j k : Reg) (m : Parcel) (n : Nat),
    (LmPlace s (parcelConst m) n →
      Completes (exec (.storeALm k m) s) s (fun l => l = .p ∨ l = .lm n)
        (fun t => t.lm.read n = BitVec.ofInt 64 (s.A k).toInt ∧ t.p = s.p + 2) ∧
      Completes (exec (.storeSLm j m) s) s (fun l => l = .p ∨ l = .lm n)
        (fun t => t.lm.read n = s.S j ∧ t.p = s.p + 2)) ∧
    (LmPlace s (s.A k) n →
      Completes (exec (.storeALmReg j k) s) s (fun l => l = .p ∨ l = .lm n)
        (fun t => t.lm.read n = BitVec.ofInt 64 (s.A j).toInt ∧ t.p = s.p + 1) ∧
      Completes (exec (.storeSLmReg i k) s) s (fun l => l = .p ∨ l = .lm n)
        (fun t => t.lm.read n = s.S i ∧ t.p = s.p + 1))

/-- 074 reads and 075 writes consecutive Local Memory words, one for each element in force (R66, R67, R230, R231, R234; derived). Where each address A[k] + e with e below the vector length has a place, 074 puts the word there into element e of V[i] and 075 puts element e of V[i] there; the other elements, every other word and everything else but P are as before. -/
def Obligations.LocalMemoryVectorReferences : Prop :=
  Encodes 0o074 1 (fun i _ k _ _ _ _ => .loadVLm i k) ∧ Encodes 0o075 1 (fun i _ k _ _ _ _ => .storeVLm i k) ∧
  ∀ (s : State) (i k : Reg) (place : Elem → Nat),
    (∀ e : Elem, e.val < s.vlen → LmPlace s (s.A k + BitVec.ofNat 32 e.val) (place e)) →
    WritesV (exec (.loadVLm i k) s) s i (fun e => s.lm.read (place e)) ∧
    Completes (exec (.storeVLm i k) s) s (fun l => l = .p ∨ ∃ e : Elem, e.val < s.vlen ∧ l = .lm (place e))
      (fun t => (∀ e : Elem, e.val < s.vlen → t.lm.read (place e) = s.V i e) ∧ t.p = s.p + 1)

/-- Under LM_ADDR_MODE = fault an address of 16384 or more faults by name (R66, R67; derived). The model's treatment of the open point D5 (log 14, log 15): each of the ten Local Memory instructions faults with localMemoryAddress where its address, or one of its element addresses, is 16384 or more and the parameter is fault. -/
def Obligations.BadLocalMemoryAddressFaults : Prop :=
  (∀ (s : State) (i k : Reg) (m : Parcel), LmNowhere s (parcelConst m) →
    exec (.loadALm i m) s = .fault .localMemoryAddress ∧ exec (.storeALm k m) s = .fault .localMemoryAddress ∧
    exec (.loadSLm i m) s = .fault .localMemoryAddress ∧ exec (.storeSLm k m) s = .fault .localMemoryAddress) ∧
  (∀ (s : State) (i k : Reg), LmNowhere s (s.A k) →
    exec (.loadALmReg i k) s = .fault .localMemoryAddress ∧ exec (.storeALmReg i k) s = .fault .localMemoryAddress ∧
    exec (.loadSLmReg i k) s = .fault .localMemoryAddress ∧ exec (.storeSLmReg i k) s = .fault .localMemoryAddress) ∧
  ∀ (s : State) (i k : Reg) (e : Elem), e.val < s.vlen → LmNowhere s (s.A k + BitVec.ofNat 32 e.val) →
    exec (.loadVLm i k) s = .fault .localMemoryAddress ∧ exec (.storeVLm i k) s = .fault .localMemoryAddress

/-- 050 to 053, 116 and 117 enter constants into S[i] (R210, R211, R212, R213, R266, R267; stated). S[i] receives m1:m2 with the upper half zeros (050) or ones (051), m1:m2 in the upper half (052), m1:m2:m3:m4 (053), or jk with the upper bits zeros (116) or ones (117); P moves past the 3, 5 or 1 parcels; nothing else changes. -/
def Obligations.ScalarRegistersAreEntered : Prop :=
  Encodes 0o050 3 (fun i _ _ m1 m2 _ _ => .halfS i (m1 ++ m2)) ∧
  Encodes 0o051 3 (fun i _ _ m1 m2 _ _ => .halfNegS i (m1 ++ m2)) ∧
  Encodes 0o052 3 (fun i _ _ m1 m2 _ _ => .leftS i (m1 ++ m2)) ∧
  Encodes 0o053 5 (fun i _ _ m1 m2 m3 m4 => .fullS i (m1 ++ m2 ++ m3 ++ m4)) ∧
  Encodes 0o116 1 (fun i j k _ _ _ _ => .shortS i (jkOf j k)) ∧
  Encodes 0o117 1 (fun i j k _ _ _ _ => .shortNegS i (jkOf j k)) ∧
  ∀ (s : State) (i : Reg) (c : BitVec 32) (d : BitVec 64) (jk : BitVec 6),
    WritesS (exec (.halfS i c) s) s i (BitVec.ofNat 64 c.toNat) 3 ∧
    WritesS (exec (.halfNegS i c) s) s i (0xFFFFFFFF00000000 + BitVec.ofNat 64 c.toNat) 3 ∧
    WritesS (exec (.leftS i c) s) s i (BitVec.ofNat 64 (c.toNat * 2 ^ 32)) 3 ∧
    WritesS (exec (.fullS i d) s) s i d 5 ∧
    WritesS (exec (.shortS i jk) s) s i (BitVec.ofNat 64 jk.toNat) 1 ∧
    WritesS (exec (.shortNegS i jk) s) s i (0xFFFFFFFFFFFFFFC0 + BitVec.ofNat 64 jk.toNat) 1

/-- 060, 062, 064 and 066 read the relocated word into S[i] (R60, R61, R64, R71, R218, R220, R222, R224; derived). Where the relocated address is in the field and installed, S[i] receives the word in memory where no write waits for it, and otherwise that word or one that waits (the spec's weakest reading D6, log 16); the read is outstanding afterwards, which R40 allows and the model chooses (log 17), but under CM_PROGRAM_ORDER it is not (log 19); nothing else but P changes. (An address in the field where no storage is installed: ReferencesBeyondInstalledMemoryFault, log 42. An address out of the field: ScalarReferenceOutOfField.) -/
def Obligations.CommonMemoryLoads : Prop :=
  Encodes 0o060 1 (fun i j k _ _ _ _ => .loadSSum i j k) ∧ Encodes 0o062 1 (fun i _ k _ _ _ _ => .loadSReg i k) ∧
  Encodes 0o064 3 (fun i _ k m1 m2 _ _ => .loadSDisp i k (m1 ++ m2)) ∧
  Encodes 0o066 3 (fun i _ _ m1 m2 _ _ => .loadSAbs i (m1 ++ m2)) ∧
  ∀ (s : State) (i j k : Reg) (c : BitVec 32),
    (Installed s (s.ba + (s.A j + s.A k)) →
      ReadsWord (exec (.loadSSum i j k) s) s i (s.ba + (s.A j + s.A k)) 1) ∧
    (Installed s (s.ba + s.A k) → ReadsWord (exec (.loadSReg i k) s) s i (s.ba + s.A k) 1) ∧
    (Installed s (s.ba + (s.A k + c)) → ReadsWord (exec (.loadSDisp i k c) s) s i (s.ba + (s.A k + c)) 3) ∧
    (Installed s (s.ba + c) → ReadsWord (exec (.loadSAbs i c) s) s i (s.ba + c) 3)

/-- 061, 063, 065 and 067 write S[i] to the relocated word (R60, R61, R64, R71, R77, R219, R221, R223, R225; derived). Where the relocated address is in the field and installed, S[i] waits for that word, or under CM_PROGRAM_ORDER (log 19) is in it; the words stored to are those of before and this one (log 22); an outstanding read of the same address may be overtaken and deliver S[i] (the spec's weakest reading D6, log 17); every other word, every other register and everything else but P are as before. -/
def Obligations.CommonMemoryStores : Prop :=
  Encodes 0o061 1 (fun i j k _ _ _ _ => .storeSSum i j k) ∧ Encodes 0o063 1 (fun i _ k _ _ _ _ => .storeSReg i k) ∧
  Encodes 0o065 3 (fun i _ k m1 m2 _ _ => .storeSDisp i k (m1 ++ m2)) ∧
  Encodes 0o067 3 (fun i _ _ m1 m2 _ _ => .storeSAbs i (m1 ++ m2)) ∧
  ∀ (s : State) (i j k : Reg) (c : BitVec 32),
    (Installed s (s.ba + (s.A j + s.A k)) →
      StoresWord (exec (.storeSSum i j k) s) s (s.ba + (s.A j + s.A k)) (s.S i) 1) ∧
    (Installed s (s.ba + s.A k) → StoresWord (exec (.storeSReg i k) s) s (s.ba + s.A k) (s.S i) 1) ∧
    (Installed s (s.ba + (s.A k + c)) → StoresWord (exec (.storeSDisp i k c) s) s (s.ba + (s.A k + c)) (s.S i) 3) ∧
    (Installed s (s.ba + c) → StoresWord (exec (.storeSAbs i c) s) s (s.ba + c) (s.S i) 3)

/-- A scalar Common Memory reference out of the field is signalled, reads zero or is dropped, and halts where enabled (R61, R63, R342, R343; derived). For 060 to 067: a read delivers zero, a write changes no memory, the range error is signalled whether or not the halt is enabled; with the halt disabled the program goes on, with it enabled the processor halts. (The state beside the outcome after a halt is the model's, log 28 and log 29; that the waiting writes are complete and nothing is outstanding is D13, log 30, DEDUCED.) -/
def Obligations.ScalarReferenceOutOfField : Prop :=
  ∀ (s : State) (i j k : Reg) (c : BitVec 32),
    (¬ InRange s (s.ba + (s.A j + s.A k)) →
      (s.bps.rangeHaltEnable = false → RangeSignalled (exec (.loadSSum i j k) s) s 1 (fun l => l = .s i) (fun t => t.S i = 0)) ∧
      (s.bps.rangeHaltEnable = true → RangeHalted (exec (.loadSSum i j k) s) s 1 (fun l => l = .s i) (fun t => t.S i = 0))) ∧
    (¬ InRange s (s.ba + s.A k) →
      (s.bps.rangeHaltEnable = false → RangeSignalled (exec (.loadSReg i k) s) s 1 (fun l => l = .s i) (fun t => t.S i = 0)) ∧
      (s.bps.rangeHaltEnable = true → RangeHalted (exec (.loadSReg i k) s) s 1 (fun l => l = .s i) (fun t => t.S i = 0))) ∧
    (¬ InRange s (s.ba + (s.A k + c)) →
      (s.bps.rangeHaltEnable = false → RangeSignalled (exec (.loadSDisp i k c) s) s 3 (fun l => l = .s i) (fun t => t.S i = 0)) ∧
      (s.bps.rangeHaltEnable = true → RangeHalted (exec (.loadSDisp i k c) s) s 3 (fun l => l = .s i) (fun t => t.S i = 0))) ∧
    (¬ InRange s (s.ba + c) →
      (s.bps.rangeHaltEnable = false → RangeSignalled (exec (.loadSAbs i c) s) s 3 (fun l => l = .s i) (fun t => t.S i = 0)) ∧
      (s.bps.rangeHaltEnable = true → RangeHalted (exec (.loadSAbs i c) s) s 3 (fun l => l = .s i) (fun t => t.S i = 0))) ∧
    (¬ InRange s (s.ba + (s.A j + s.A k)) →
      (s.bps.rangeHaltEnable = false → RangeSignalled (exec (.storeSSum i j k) s) s 1 (fun _ => False) (fun _ => True)) ∧
      (s.bps.rangeHaltEnable = true → RangeHalted (exec (.storeSSum i j k) s) s 1 (fun _ => False) (fun _ => True))) ∧
    (¬ InRange s (s.ba + s.A k) →
      (s.bps.rangeHaltEnable = false → RangeSignalled (exec (.storeSReg i k) s) s 1 (fun _ => False) (fun _ => True)) ∧
      (s.bps.rangeHaltEnable = true → RangeHalted (exec (.storeSReg i k) s) s 1 (fun _ => False) (fun _ => True))) ∧
    (¬ InRange s (s.ba + (s.A k + c)) →
      (s.bps.rangeHaltEnable = false → RangeSignalled (exec (.storeSDisp i k c) s) s 3 (fun _ => False) (fun _ => True)) ∧
      (s.bps.rangeHaltEnable = true → RangeHalted (exec (.storeSDisp i k c) s) s 3 (fun _ => False) (fun _ => True))) ∧
    (¬ InRange s (s.ba + c) →
      (s.bps.rangeHaltEnable = false → RangeSignalled (exec (.storeSAbs i c) s) s 3 (fun _ => False) (fun _ => True)) ∧
      (s.bps.rangeHaltEnable = true → RangeHalted (exec (.storeSAbs i c) s) s 3 (fun _ => False) (fun _ => True)))

/-- 070 and 072 read one word for each element in force, zero where it is out of the field (R60, R61, R63, R64, R71, R76, R226, R228, R234; derived). With the halt disabled or every element in the field, and no element where storage is not installed: element e of V[i] receives the word at BA + A[j] + e*A[k] (070) or BA + A[k] + low 32 bits of V[j][e] (072), or where a write waits for that word it or a value that waits (the spec's weakest reading D6, log 16); an element out of the field receives zero and the range error is signalled; the reads of the elements in the field are outstanding afterwards, in order (log 17), but under CM_PROGRAM_ORDER not (log 19); elements at and beyond the vector length and everything else but P are as before. Where i = j in 072 the offsets are the stream of log 27 and V_SRC_EQ_DST is not refuse. (With the halt enabled and an element out of the field: VectorReferenceOutOfFieldHalts.) -/
def Obligations.VectorLoadsFromCommonMemory : Prop :=
  Encodes 0o070 1 (fun i j k _ _ _ _ => .loadVStride i j k) ∧ Encodes 0o072 1 (fun i j k _ _ _ _ => .gather i j k) ∧
  ∀ (s : State) (x : Instr) (i j k : Reg) (a : Elem → Addr),
    ((x = .loadVStride i j k ∧ ∀ e : Elem, a e = s.ba + (s.A j + BitVec.ofNat 32 e.val * s.A k)) ∨
      (x = .gather i j k ∧ (i = j → s.params.vSrcEqDst ≠ .refuse) ∧
        ∀ e : Elem, a e = s.ba + (s.A k + BitVec.ofNat 32 (s.stream i j e).toNat))) →
    (∀ e : Elem, e.val < s.vlen → InRange s (a e) → (a e).toNat < s.params.cmWords) →
    (s.bps.rangeHaltEnable = false ∨ ∀ e : Elem, e.val < s.vlen → InRange s (a e)) →
    Completes (exec x s) s
      (fun l => l = .p ∨ l = .reads ∨ (∃ e : Elem, l = .v i e ∧ e.val < s.vlen) ∨
        (l = .rangeError ∧ ∃ e : Elem, e.val < s.vlen ∧ ¬ InRange s (a e)))
      (fun t => (∀ e : Elem, e.val < s.vlen →
          (InRange s (a e) → MayLoad s (a e).toNat (t.V i e) ∧
            (s.waiting (a e).toNat = [] → t.V i e = s.cm.read (a e).toNat)) ∧
          (¬ InRange s (a e) → t.V i e = 0 ∧ t.bps.rangeError = true)) ∧
        t.port.reads = ReadsAfter s ((s.elements.filter (fun e => s.inField (a e))).map
          (fun e => { addr := (a e).toNat, dest := .v i e })) ∧
        t.p = s.p + 1)

/-- 071 and 073 write one word for each element in force that is in the field (R60, R61, R63, R64, R70, R71, R77, R227, R229, R234; derived). With the halt disabled or every element in the field, and no element where storage is not installed: the elements of V[i] in the field wait, in order, for the words at BA + A[j] + e*A[k] (071) or BA + A[k] + low 32 bits of V[j][e] (073), or under CM_PROGRAM_ORDER (log 19) each such word holds one of the values; the words stored to are those of before and these (log 22); an element out of the field is dropped and signalled; registers change only where an outstanding read of a stored address is overtaken, and then receive an element stored to that address (the spec's weakest reading D6, log 17); everything else but P is as before. (With the halt enabled and an element out of the field: VectorReferenceOutOfFieldHalts.) -/
def Obligations.VectorStoresToCommonMemory : Prop :=
  Encodes 0o071 1 (fun i j k _ _ _ _ => .storeVStride i j k) ∧ Encodes 0o073 1 (fun i j k _ _ _ _ => .scatter i j k) ∧
  ∀ (s : State) (x : Instr) (i j k : Reg) (a : Elem → Addr),
    ((x = .storeVStride i j k ∧ ∀ e : Elem, a e = s.ba + (s.A j + BitVec.ofNat 32 e.val * s.A k)) ∨
      (x = .scatter i j k ∧ ∀ e : Elem, a e = s.ba + (s.A k + BitVec.ofNat 32 (s.V j e).toNat))) →
    (∀ e : Elem, e.val < s.vlen → InRange s (a e) → (a e).toNat < s.params.cmWords) →
    (s.bps.rangeHaltEnable = false ∨ ∀ e : Elem, e.val < s.vlen → InRange s (a e)) →
    Completes (exec x s) s
      (fun l => l = .p ∨ l = .dirty ∨
        (∃ e : Elem, e.val < s.vlen ∧ InRange s (a e) ∧ (l = .cm (a e).toNat ∨ AwaitingLoc s (a e).toNat l)) ∨
        (s.params.cmProgramOrder = true ∧ WaitingLoc s l) ∨
        (l = .rangeError ∧ ∃ e : Elem, e.val < s.vlen ∧ ¬ InRange s (a e)))
      (fun t => WroteWords s t
          ((s.elements.filter (fun e => s.inField (a e))).map (fun e => ((a e).toNat, s.V i e))) ∧
        (∀ b, b ∈ t.dirty ↔ b ∈ s.dirty ∨ ∃ e : Elem, e.val < s.vlen ∧ InRange s (a e) ∧ b = (a e).toNat) ∧
        (∀ e : Elem, e.val < s.vlen → ¬ InRange s (a e) → t.bps.rangeError = true) ∧
        (∀ n, t.S n = s.S n ∨ ∃ e : Elem, e.val < s.vlen ∧ InRange s (a e) ∧
          { addr := (a e).toNat, dest := .s n } ∈ s.port.reads ∧ t.S n = s.V i e) ∧
        (∀ n d, t.V n d = s.V n d ∨ ∃ e : Elem, e.val < s.vlen ∧ InRange s (a e) ∧
          { addr := (a e).toNat, dest := .v n d } ∈ s.port.reads ∧ t.V n d = s.V i e) ∧
        t.p = s.p + 1)

/-- With the halt enabled a vector reference with an element out of the field halts the processor (R63, R234, R342, R343, R347; derived). 070 to 073 with some element in force out of the field and the halt enabled (and no element where storage is not installed) answer a halted state: the range error signalled, the processor idle with outcome Halted(RangeError), the exit mode and code not written. (How much of the instruction is done, and P, are the model's, log 28 and log 29; nothing is said of them but that P is at the instruction or past it. That nothing is outstanding after the halt is D13, log 30, DEDUCED.) -/
def Obligations.VectorReferenceOutOfFieldHalts : Prop :=
  ∀ (s : State) (x : Instr) (i j k : Reg) (a : Elem → Addr),
    (((x = .loadVStride i j k ∨ x = .storeVStride i j k) ∧
        ∀ e : Elem, a e = s.ba + (s.A j + BitVec.ofNat 32 e.val * s.A k)) ∨
      (x = .gather i j k ∧ (i = j → s.params.vSrcEqDst ≠ .refuse) ∧
        ∀ e : Elem, a e = s.ba + (s.A k + BitVec.ofNat 32 (s.stream i j e).toNat)) ∨
      (x = .scatter i j k ∧ ∀ e : Elem, a e = s.ba + (s.A k + BitVec.ofNat 32 (s.V j e).toNat))) →
    (∀ e : Elem, e.val < s.vlen → InRange s (a e) → (a e).toNat < s.params.cmWords) →
    s.bps.rangeHaltEnable = true → (∃ e : Elem, e.val < s.vlen ∧ ¬ InRange s (a e)) →
    ∃ t, exec x s = .next t ∧ Stopped .haltedRange 1 s t ∧ t.bps.rangeError = true ∧
      t.bps.exitMode = s.bps.exitMode ∧ t.bps.exitCode = s.bps.exitCode

/-- 076, 077 and 135, and without Shared registers 134, 136 and 137, only move P (R232, R233, R283, R284, R285, R286, R287; derived). Whatever their designators, 076, 077 and 135 change nothing but P, which moves past the one parcel; so do 134, 136 and 137 on a machine without Shared registers. -/
def Obligations.PassesOnlyAdvance : Prop :=
  Encodes 0o076 1 (fun _ _ _ _ _ _ _ => .pass) ∧ Encodes 0o077 1 (fun _ _ _ _ _ _ _ => .pass077) ∧
  Encodes 0o135 1 (fun _ _ _ _ _ _ _ => .pass135) ∧
  ∀ (s : State) (i j k : Reg),
    Completes (exec .pass s) s (fun l => l = .p) (fun t => t.p = s.p + 1) ∧
    Completes (exec .pass077 s) s (fun l => l = .p) (fun t => t.p = s.p + 1) ∧
    Completes (exec .pass135 s) s (fun l => l = .p) (fun t => t.p = s.p + 1) ∧
    (s.params.hasSharedRegs = false →
      Completes (exec (.setShared j k) s) s (fun l => l = .p) (fun t => t.p = s.p + 1) ∧
      Completes (exec (.readShared i j) s) s (fun l => l = .p) (fun t => t.p = s.p + 1) ∧
      Completes (exec (.incShared i j) s) s (fun l => l = .p) (fun t => t.p = s.p + 1))

/-- With Shared registers 134 writes, 136 reads and 137 reads and increments SR[j] for j of 0 or 1 (R283, R285, R286, R287; derived). On a machine with Shared registers and j below 2: SR[j] receives A[k] (134); A[i] receives SR[j] (136); A[i] receives SR[j] and SR[j] its successor modulo 2^32 (137, the value before the increment being the spec's decision D25, log 44); nothing else but P changes. With j of 2 or more each is refused by name. -/
def Obligations.SharedRegistersAreReached : Prop :=
  Encodes 0o134 1 (fun _ j k _ _ _ _ => .setShared j k) ∧ Encodes 0o136 1 (fun i j _ _ _ _ _ => .readShared i j) ∧
  Encodes 0o137 1 (fun i j _ _ _ _ _ => .incShared i j) ∧
  ∀ (s : State) (i j k : Reg), s.params.hasSharedRegs = true →
    (j.val < 2 →
      Completes (exec (.setShared j k) s) s (fun l => l = .p ∨ l = .sr j)
        (fun t => t.sr.get j = s.A k ∧ t.p = s.p + 1) ∧
      WritesA (exec (.readShared i j) s) s i (s.sr.get j) 1 ∧
      Completes (exec (.incShared i j) s) s (fun l => l = .p ∨ l = .a i ∨ l = .sr j)
        (fun t => t.A i = s.sr.get j ∧ t.sr.get j = s.sr.get j + 1 ∧ t.p = s.p + 1)) ∧
    (2 ≤ j.val →
      exec (.setShared j k) s = .refused .sharedRegisterNumber ∧
      exec (.readShared i j) s = .refused .sharedRegisterNumber ∧
      exec (.incShared i j) s = .refused .sharedRegisterNumber)

/-- 100 to 105 write the bit-by-bit products, difference and sum and the 64-bit sum and difference (R250, R251, R252, R253, R254, R255; stated). For the codes 100 to 105, every bit of S[i] is the product, the product with the complement of S[k], the difference and the sum of the bits of S[j] and S[k], 103 with j = k being the copy of S[j]; 104 and 105 give the sum and difference modulo 2^64; nothing else but P changes. -/
def Obligations.ScalarLogicAndArithmetic : Prop :=
  Encodes 0o100 1 (fun i j k _ _ _ _ => .andS i j k) ∧ Encodes 0o101 1 (fun i j k _ _ _ _ => .andNotS i j k) ∧
  Encodes 0o102 1 (fun i j k _ _ _ _ => .xorS i j k) ∧
  Encodes 0o103 1 (fun i j k _ _ _ _ => if j = k then .copyS i j else .orS i j k) ∧
  Encodes 0o104 1 (fun i j k _ _ _ _ => .addS i j k) ∧ Encodes 0o105 1 (fun i j k _ _ _ _ => .subS i j k) ∧
  ∀ (s : State) (i j k : Reg),
    WritesS (exec (.andS i j k) s) s i (BitVec.ofFnLE fun b : Fin 64 => (s.S j).getLsbD b && (s.S k).getLsbD b) 1 ∧
    WritesS (exec (.andNotS i j k) s) s i (BitVec.ofFnLE fun b : Fin 64 => (s.S j).getLsbD b && !(s.S k).getLsbD b) 1 ∧
    WritesS (exec (.xorS i j k) s) s i (BitVec.ofFnLE fun b : Fin 64 => (s.S j).getLsbD b != (s.S k).getLsbD b) 1 ∧
    WritesS (exec (.orS i j k) s) s i (BitVec.ofFnLE fun b : Fin 64 => (s.S j).getLsbD b || (s.S k).getLsbD b) 1 ∧
    WritesS (exec (.copyS i j) s) s i (s.S j) 1 ∧
    WritesS (exec (.addS i j k) s) s i (BitVec.ofNat 64 ((s.S j).toNat + (s.S k).toNat)) 1 ∧
    WritesS (exec (.subS i j k) s) s i (BitVec.ofInt 64 ((s.S j).toInt - (s.S k).toInt)) 1

/-- 106 counts the 1 bits or their parity, 107 the leading zeros (R256, R257, R259; stated). 106 with k = 0 gives the number of 1 bits of S[j], with k = 1 that number modulo 2; 107 gives the number n of 0 bits above the highest 1 bit, 64 where there is none; nothing else but P changes. -/
def Obligations.ScalarBitCounts : Prop :=
  (∀ i j r m1 m2 m3 m4, decodeParcels (parcelOf 0o106 r j 0) m1 m2 m3 m4 = .popS r j ∧
    decodeParcels (parcelOf 0o106 r j 1) m1 m2 m3 m4 = .parityS r j ∧
    decodeParcels (parcelOf 0o107 r j i) m1 m2 m3 m4 = .lzS r j) ∧
  parcelCount 0o106 = 1 ∧ parcelCount 0o107 = 1 ∧
  ∀ (s : State) (i j : Reg),
    WritesS (exec (.popS i j) s) s i (BitVec.ofNat 64 (Finset.univ.filter fun b : Fin 64 => (s.S j).getLsbD b).card) 1 ∧
    WritesS (exec (.parityS i j) s) s i
      (BitVec.ofNat 64 ((Finset.univ.filter fun b : Fin 64 => (s.S j).getLsbD b).card % 2)) 1 ∧
    ∃ n : Nat, n ≤ 64 ∧ WritesS (exec (.lzS i j) s) s i (BitVec.ofNat 64 n) 1 ∧
      (∀ b, 64 - n ≤ b → b < 64 → (s.S j).getLsbD b = false) ∧ (n < 64 → (s.S j).getLsbD (63 - n) = true)

/-- 110 to 113 shift with zero fill (R127, R128, R260, R261, R262, R263; derived). 110 gives S[i] times 2^(64 - jk) modulo 2^64; 111 gives the quotient of S[i] by 2^jk; 112 gives the upper word of S[i]:S[j] shifted left by A[k], 113 the lower word of S[j]:S[i] shifted right by A[k], both zero for counts of 128 or more; nothing else but P changes. -/
def Obligations.ScalarShifts : Prop :=
  Encodes 0o110 1 (fun i j k _ _ _ _ => .shlS i (jkOf j k)) ∧ Encodes 0o111 1 (fun i j k _ _ _ _ => .shrS i (jkOf j k)) ∧
  Encodes 0o112 1 (fun i j k _ _ _ _ => .dshlS i j k) ∧ Encodes 0o113 1 (fun i j k _ _ _ _ => .dshrS i j k) ∧
  ∀ (s : State) (i j k : Reg) (jk : BitVec 6),
    WritesS (exec (.shlS i jk) s) s i (BitVec.ofNat 64 ((s.S i).toNat * 2 ^ (64 - jk.toNat))) 1 ∧
    WritesS (exec (.shrS i jk) s) s i (BitVec.ofNat 64 ((s.S i).toNat / 2 ^ jk.toNat)) 1 ∧
    WritesS (exec (.dshlS i j k) s) s i
      (if (s.A k).toNat < 128 then
        BitVec.ofNat 64 (((s.S i).toNat * 2 ^ 64 + (s.S j).toNat) * 2 ^ (s.A k).toNat % 2 ^ 128 / 2 ^ 64) else 0) 1 ∧
    WritesS (exec (.dshrS i j k) s) s i
      (if (s.A k).toNat < 128 then
        BitVec.ofNat 64 (((s.S j).toNat * 2 ^ 64 + (s.S i).toNat) / 2 ^ (s.A k).toNat) else 0) 1

/-- 114 copies VM, 130 and 131 copy A[k] with zero and sign extension (R264, R276, R277; derived). S[i] receives VM (114), the unsigned value of A[k] (130), or the signed value of A[k] (131) in 64 bits; nothing else but P changes. -/
def Obligations.ScalarTransfers : Prop :=
  Encodes 0o114 1 (fun i _ _ _ _ _ _ => .moveVmS i) ∧ Encodes 0o130 1 (fun i _ k _ _ _ _ => .moveAS i k) ∧
  Encodes 0o131 1 (fun i _ k _ _ _ _ => .moveASigned i k) ∧
  ∀ (s : State) (i k : Reg),
    WritesS (exec (.moveVmS i) s) s i s.vm 1 ∧
    WritesS (exec (.moveAS i k) s) s i (BitVec.ofNat 64 (s.A k).toNat) 1 ∧
    WritesS (exec (.moveASigned i k) s) s i (BitVec.ofInt 64 (s.A k).toInt) 1

/-- 115 gives a clock value no less than the last one read (R27, R265, R356; derived). S[i] receives a value that is no less than every value read before, and the clock field remembers it; nothing else but P changes. (The value itself is free, the spec's decision D15, log 31.) -/
def Obligations.ClockReadingsDoNotDecrease : Prop :=
  Encodes 0o115 1 (fun i _ _ _ _ _ _ => .moveRtS i) ∧
  ∀ (s : State) (i : Reg),
    Completes (exec (.moveRtS i) s) s (fun l => l = .p ∨ l = .s i ∨ l = .rtc)
      (fun t => t.S i = t.rtc ∧ s.rtc.toNat ≤ t.rtc.toNat ∧ t.p = s.p + 1)

/-- 120 to 127, 132 and 133 deliver the result and, where enabled, halt on a range error (R268, R269, R270, R271, R272, R273, R274, R275, R278, R279, R280, R344; derived). Each scalar floating-point instruction writes the word of its function to S[i] whether or not it is a range error; without an error or with the enable off only P changes beside it; with an error and the enable on the signal is sent and the processor halts. (The state beside the outcome after a halt is the model's, log 28 and log 29; that the waiting writes are complete and nothing is outstanding is D13, log 30, DEDUCED.) (That the enable governs the error of 133 like the others is the spec's own reading of R146, C15 of spec/90_conflicts.md, log 57.) -/
def Obligations.ScalarFloatingPointResults : Prop :=
  Encodes 0o120 1 (fun i j k _ _ _ _ => .faddS i j k) ∧
  Encodes 0o121 1 (fun i j k _ _ _ _ => .fsubS i j k) ∧
  Encodes 0o124 1 (fun i j k _ _ _ _ => .fmulS i j k) ∧
  Encodes 0o125 1 (fun i j k _ _ _ _ => .fmulS125 i j k) ∧
  Encodes 0o126 1 (fun i j k _ _ _ _ => .recipIterS i j k) ∧
  Encodes 0o127 1 (fun i j k _ _ _ _ => .rsqrtIterS i j k) ∧
  Encodes 0o122 1 (fun i _ k _ _ _ _ => .fixS i k) ∧ Encodes 0o123 1 (fun i _ k _ _ _ _ => .fltS i k) ∧
  Encodes 0o132 1 (fun i j _ _ _ _ _ => .recipS i j) ∧ Encodes 0o133 1 (fun i j _ _ _ _ _ => .rsqrtS i j) ∧
  ∀ (s : State) (i j k : Reg),
    WritesFpS (exec (.faddS i j k) s) s i (fadd (s.S j) (s.S k)) ∧
    WritesFpS (exec (.fsubS i j k) s) s i (fsub (s.S j) (s.S k)) ∧
    WritesFpS (exec (.fmulS i j k) s) s i (fmul (s.S j) (s.S k)) ∧
    WritesFpS (exec (.fmulS125 i j k) s) s i (fmul (s.S j) (s.S k)) ∧
    WritesFpS (exec (.recipIterS i j k) s) s i (recipIter (s.S j) (s.S k)) ∧
    WritesFpS (exec (.rsqrtIterS i j k) s) s i (rsqrtIter (s.S j) (s.S k)) ∧
    WritesFpS (exec (.fixS i k) s) s i (fix (s.S k)) ∧
    WritesFpS (exec (.fltS i k) s) s i (flt (s.S k)) ∧
    WritesFpS (exec (.recipS i j) s) s i (recipApprox (s.S j)) ∧
    WritesFpS (exec (.rsqrtS i j) s) s i (rsqrtApprox (s.S j))

/-- A floating-point sum or difference that is representable is delivered exactly (R132, R133, R137, R138, R139; derived). For operands not in class overflow, if a normalised in-range word has the value of the sum (difference) of their values, operands in class underflow counting as zero, FAdd (FSub) gives that word without an error; a sum of value zero gives the word of all zeros. (That a representable result is delivered exactly is the spec's own premise, R137 and D16, log 33.) -/
def Obligations.FloatingSumsAreExactWhereRepresentable : Prop :=
  ∀ x y : Word, fpOverflow x = false → fpOverflow y = false →
    (∀ z : Word, FpRegular z → fpValue x + fpValue y = fpValue z → fadd x y = (z, false)) ∧
    (∀ z : Word, FpRegular z → fpValue x - fpValue y = fpValue z → fsub x y = (z, false)) ∧
    (fpValue x + fpValue y = 0 → fadd x y = (0, false)) ∧
    (fpValue x - fpValue y = 0 → fsub x y = (0, false))

/-- An overflow operand of the add unit forces exponent 0o60000 and is an error; every other result is zero, normalised below that exponent, or has that exponent (R136, R138, R139; derived). FAdd and FSub of an operand in class overflow are a range error with exponent field 0o60000; of other operands the result is the word of all zeros, a normalised word with exponent field below 0o60000, or a word with exponent field 0o60000, and only the last may be an error. (A normalised result may have an exponent field below 0o20000, and a result with exponent field 0o60000 may or may not be an error: R138 leaves both open, log 34.) -/
def Obligations.FloatingAddOverflowIsForced : Prop :=
  ∀ x y : Word,
    (fpOverflow x = true ∨ fpOverflow y = true →
      (fadd x y).2 = true ∧ fpExp (fadd x y).1 = 0o60000 ∧ (fsub x y).2 = true ∧ fpExp (fsub x y).1 = 0o60000) ∧
    (fpOverflow x = false → fpOverflow y = false → ∀ r, r = fadd x y ∨ r = fsub x y →
      r = (0, false) ∨ (fpNormal r.1 = true ∧ fpExp r.1 < 0o60000 ∧ r.2 = false) ∨ fpExp r.1 = 0o60000)

/-- Fix and Flt are exact on 48-bit integers, and Fix of a large value is an error with zero (R132, R140, R141; derived). For an integer n of -2^47 to 2^47 - 1, Flt of n is the word of all zeros or a normalised word of value n, without an error; a word not in class overflow whose value is an integer of magnitude below 2^47 is fixed to that integer without an error; a word in class overflow or of magnitude 2^48 or more is fixed to zero with an error; Flt never errs. -/
def Obligations.FixAndFloatAreExactOnIntegers : Prop :=
  (∀ n : Int, -2 ^ 47 ≤ n → n < 2 ^ 47 →
    (flt (BitVec.ofInt 64 n)).2 = false ∧ fpValue (flt (BitVec.ofInt 64 n)).1 = n ∧
    (n = 0 → (flt (BitVec.ofInt 64 n)).1 = 0) ∧ (n ≠ 0 → FpRegular (flt (BitVec.ofInt 64 n)).1)) ∧
  (∀ (x : Word) (n : Int), fpOverflow x = false → |n| < 2 ^ 47 → fpValue x = n → fix x = (BitVec.ofInt 64 n, false)) ∧
  (∀ x : Word, fpOverflow x = true ∨ (2 : ℚ) ^ 48 ≤ |fpValue x| → fix x = (0, true)) ∧
  ∀ x : Word, (flt x).2 = false

/-- The special cases of the multiply, the integer multiply, and exactness for normalised operands (R136, R137, R142, R143, R148; derived). An overflow operand, an exponent sum above 0o120000, or one of 0o120000 where the coefficient product needs no one-place shift, is an error with exponent field 0o60001; both exponents zero give sign and exponent zero and, where the low half of the coefficient product is zero, its upper half; an exponent sum below 0o60000 otherwise gives the word of all zeros; and for normalised in-range operands with an exponent sum between the edges, or of 0o60000 where no one-place shift is needed, a representable product is delivered exactly. (That a representable product is delivered exactly is the spec's own premise, R137 and D16, log 33. An exponent sum of 0o60000 or 0o120000 with a one-place shift is left open by R142, log 37.) -/
def Obligations.FloatingProducts : Prop :=
  (∀ x y : Word, fpOverflow x = true ∨ fpOverflow y = true ∨ 0o120000 < fpExp x + fpExp y ∨
      (fpExp x + fpExp y = 0o120000 ∧ 2 ^ 95 ≤ fpCoef x * fpCoef y) →
    (fmul x y).2 = true ∧ fpExp (fmul x y).1 = 0o60001) ∧
  (∀ x y : Word, fpExp x = 0 → fpExp y = 0 →
    (fmul x y).2 = false ∧ fpSign (fmul x y).1 = false ∧ fpExp (fmul x y).1 = 0 ∧
    (2 ^ 48 ∣ fpCoef x * fpCoef y → fpCoef (fmul x y).1 = fpCoef x * fpCoef y / 2 ^ 48)) ∧
  (∀ x y : Word, fpOverflow x = false → fpOverflow y = false → ¬ (fpExp x = 0 ∧ fpExp y = 0) →
    fpExp x + fpExp y < 0o60000 → fmul x y = (0, false)) ∧
  ∀ x y z : Word, FpRegular x → FpRegular y → FpRegular z →
    (0o60000 < fpExp x + fpExp y ∨ (fpExp x + fpExp y = 0o60000 ∧ 2 ^ 95 ≤ fpCoef x * fpCoef y)) →
    fpExp x + fpExp y < 0o120000 → fpValue x * fpValue y = fpValue z → fmul x y = (z, false)

/-- The special cases of the two approximations (R136, R144, R146, R149; derived). RecipApprox of an operand in class overflow or underflow is an error with exponent field 0o60002, and of any other operand no error. RsqrtApprox of an operand in class overflow is an error, of an exponent field 0 to 3 no error, of another negative operand an error, each with exponent field 0o60004; of a positive in-range operand no error. (The order of the cases is the spec's derived reading R149. R146 leaves an operand with exponent field 4 to 0o17777 open: that a negative one is an error with exponent field 0o60004 is the model's choice, log 39.) -/
def Obligations.ApproximationSpecialCases : Prop :=
  (∀ x : Word, fpOverflow x = true ∨ fpUnderflow x = true →
    (recipApprox x).2 = true ∧ fpExp (recipApprox x).1 = 0o60002) ∧
  (∀ x : Word, fpOverflow x = false → fpUnderflow x = false → (recipApprox x).2 = false) ∧
  (∀ x : Word, fpOverflow x = true → (rsqrtApprox x).2 = true ∧ fpExp (rsqrtApprox x).1 = 0o60004) ∧
  (∀ x : Word, fpExp x ≤ 3 → (rsqrtApprox x).2 = false ∧ fpExp (rsqrtApprox x).1 = 0o60004) ∧
  (∀ x : Word, 3 < fpExp x → fpSign x = true → (rsqrtApprox x).2 = true ∧ fpExp (rsqrtApprox x).1 = 0o60004) ∧
  ∀ x : Word, fpOverflow x = false → fpUnderflow x = false → fpSign x = false → (rsqrtApprox x).2 = false

/-- A vector source stream is its register, except where the destination is that register (R131, R291; derived). An operand stream of a register other than the destination supplies its elements. Where the two are one register the manual is silent outside the special forms; the model's reading by V_SRC_EQ_DST (log 27): zeros, the old elements, or free values, and under refuse the instruction is refused by the name vectorOverlap. -/
def Obligations.VectorSourcesThatAreDestinations : Prop :=
  (∀ (s : State) (i n : Reg) (e : Elem),
    (n ≠ i → s.stream i n e = s.V n e) ∧
    (n = i → s.params.vSrcEqDst = .zeros → s.stream i n e = 0) ∧
    (n = i → s.params.vSrcEqDst = .old → s.stream i n e = s.V n e)) ∧
  ∀ (s : State) (i j k : Reg) (x : Instr), s.params.vSrcEqDst = .refuse →
    (i = k ∧ (x = .andSV i j k ∨ x = .xorSV i j k ∨ x = .orSV i j k ∨ x = .mergeSV i j k ∨ x = .fmulSV i j k ∨
        x = .addSV i j k ∨ x = .subSV i j k ∨ x = .faddSV i j k ∨ x = .fsubSV i j k ∨ x = .negV i k ∨
        x = .fnegV i k ∨ x = .recipV i k ∨ x = .rsqrtV i k ∨ x = .fixV i k ∨ x = .fltV i k)) ∨
    ((i = j ∨ i = k) ∧ (x = .andVV i j k ∨ x = .xorVV i j k ∨ x = .orVV i j k ∨ x = .mergeVV i j k ∨
        x = .fmulVV i j k ∨ x = .recipIterV i j k ∨ x = .rsqrtIterV i j k ∨ x = .addVV i j k ∨ x = .subVV i j k ∨
        x = .faddVV i j k ∨ x = .fsubVV i j k)) ∨
    (i = j ∧ (x = .copyV i j ∨ x = .shlV i j k ∨ x = .shrV i j k ∨ x = .dshlV i j k ∨ x = .dshrV i j k ∨
        x = .popV i j ∨ x = .parityV i j ∨ x = .lzV i j ∨ x = .gather i j k)) →
    exec x s = .refused .vectorOverlap

/-- The vector logical, integer and count instructions work element by element (R120, R125, R126, R129, R290, R293, R294, R311, R312, R313, R314; derived). Each of the codes 140 to 145 and 160 to 165 decodes to its instruction, the special forms 143iii, 144iji, 145ijj and 163iik to theirs (VectorSpecialForms). 140 to 145 and 160 to 163 write the bit-by-bit product, difference and sum and the 64-bit sum and difference of S[j] or V[j][e] with V[k][e] to element e of V[i], 145ijj a copy, 164 and 165 the counts of V[j][e], for the elements below the vector length; the other elements and everything else but P are as before. A source V register that is also the destination is the stream of VectorSourcesThatAreDestinations (log 27), and for that instruction V_SRC_EQ_DST is then not refuse. -/
def Obligations.VectorLogicArithmeticAndCounts : Prop :=
  Encodes 0o140 1 (fun i j k _ _ _ _ => .andSV i j k) ∧
  Encodes 0o141 1 (fun i j k _ _ _ _ => .andVV i j k) ∧
  Encodes 0o142 1 (fun i j k _ _ _ _ => .xorSV i j k) ∧
  Encodes 0o143 1 (fun i j k _ _ _ _ => if i = j ∧ j = k then .clearV i else .xorVV i j k) ∧
  Encodes 0o144 1 (fun i j k _ _ _ _ => if i = k then .broadcastV i j else .orSV i j k) ∧
  Encodes 0o145 1 (fun i j k _ _ _ _ => if j = k then .copyV i j else .orVV i j k) ∧
  Encodes 0o160 1 (fun i j k _ _ _ _ => .addSV i j k) ∧
  Encodes 0o161 1 (fun i j k _ _ _ _ => .addVV i j k) ∧
  Encodes 0o162 1 (fun i j k _ _ _ _ => .subSV i j k) ∧
  Encodes 0o163 1 (fun i j k _ _ _ _ => if i = j then .negV i k else .subVV i j k) ∧
  parcelCount 0o164 = 1 ∧
  (∀ i j m1 m2 m3 m4, decodeParcels (parcelOf 0o164 i j 0) m1 m2 m3 m4 = .popV i j ∧
    decodeParcels (parcelOf 0o164 i j 1) m1 m2 m3 m4 = .parityV i j) ∧
  Encodes 0o165 1 (fun i j _ _ _ _ _ => .lzV i j) ∧
  ∀ (s : State) (i j k : Reg),
    ((i = k → s.params.vSrcEqDst ≠ .refuse) →
      WritesV (exec (.andSV i j k) s) s i (fun e => s.S j &&& s.stream i k e) ∧
      WritesV (exec (.xorSV i j k) s) s i (fun e => s.S j ^^^ s.stream i k e) ∧
      WritesV (exec (.orSV i j k) s) s i (fun e => s.S j ||| s.stream i k e) ∧
      WritesV (exec (.addSV i j k) s) s i (fun e => s.S j + s.stream i k e) ∧
      WritesV (exec (.subSV i j k) s) s i (fun e => s.S j - s.stream i k e)) ∧
    ((i = j ∨ i = k → s.params.vSrcEqDst ≠ .refuse) →
      WritesV (exec (.andVV i j k) s) s i (fun e => s.stream i j e &&& s.stream i k e) ∧
      WritesV (exec (.xorVV i j k) s) s i (fun e => s.stream i j e ^^^ s.stream i k e) ∧
      WritesV (exec (.orVV i j k) s) s i (fun e => s.stream i j e ||| s.stream i k e) ∧
      WritesV (exec (.addVV i j k) s) s i (fun e => s.stream i j e + s.stream i k e) ∧
      WritesV (exec (.subVV i j k) s) s i (fun e => s.stream i j e - s.stream i k e)) ∧
    ((i = j → s.params.vSrcEqDst ≠ .refuse) →
      WritesV (exec (.copyV i j) s) s i (fun e => s.stream i j e) ∧
      WritesV (exec (.popV i j) s) s i
        (fun e => BitVec.ofNat 64 (Finset.univ.filter fun b : Fin 64 => (s.stream i j e).getLsbD b).card) ∧
      WritesV (exec (.parityV i j) s) s i
        (fun e => BitVec.ofNat 64 ((Finset.univ.filter fun b : Fin 64 => (s.stream i j e).getLsbD b).card % 2)) ∧
      ∃ n : Elem → Nat, WritesV (exec (.lzV i j) s) s i (fun e => BitVec.ofNat 64 (n e)) ∧
        ∀ e : Elem, n e ≤ 64 ∧ (∀ b, 64 - n e ≤ b → b < 64 → (s.stream i j e).getLsbD b = false) ∧
          (n e < 64 → (s.stream i j e).getLsbD (63 - n e) = true))

/-- 143iii clears, 144iji copies S[j], 163iik gives the twos complement, 173iik the normalised negative (R297, R299, R315, R326; derived). 143iii writes zero, 144iji S[j], 163iik the negative of V[k][e] modulo 2^64, and 173iik the result of FSub(0, V[k][e]) with its range error, to the elements of V[i] below the vector length; V[i] is no source of them; everything else but P is as before. (163iii and 173iii, where V[k] is the destination, take the stream of VectorSourcesThatAreDestinations.) (That after a halt of 173iik all elements are delivered, the waiting writes are complete, nothing is outstanding and P is at the instruction or past it is the model's, D13, log 28 to log 30.) -/
def Obligations.VectorSpecialForms : Prop :=
  (∀ i j k m1 m2 m3 m4,
    decodeParcels (parcelOf 0o143 i i i) m1 m2 m3 m4 = .clearV i ∧
    decodeParcels (parcelOf 0o144 i j i) m1 m2 m3 m4 = .broadcastV i j ∧
    decodeParcels (parcelOf 0o163 i i k) m1 m2 m3 m4 = .negV i k ∧
    decodeParcels (parcelOf 0o173 i i k) m1 m2 m3 m4 = .fnegV i k) ∧
  ∀ (s : State) (i j k : Reg),
    WritesV (exec (.clearV i) s) s i (fun _ => 0) ∧
    WritesV (exec (.broadcastV i j) s) s i (fun _ => s.S j) ∧
    ((i = k → s.params.vSrcEqDst ≠ .refuse) →
      WritesV (exec (.negV i k) s) s i (fun e => BitVec.ofInt 64 (-(s.stream i k e).toInt)) ∧
      WritesFpV (exec (.fnegV i k) s) s i (fun e => fsub 0 (s.stream i k e)))

/-- 146 and 147 select by VM, 150 to 153 shift by A[k] (R127, R128, R301, R302, R303, R304, R305, R306; derived). Each of the codes 146, 147 and 150 to 153 decodes to its instruction. 146 and 147 write S[j] or V[j][e] where the bit of VM for e is 1 and V[k][e] where it is 0; 150 and 151 shift each element by A[k], zero for counts of 64 or more; 152 and 153 shift each element together with the next (zero after the last in force) or the one before (zero before the first); elements below the vector length only, nothing else but P changes. A source V register that is also the destination is the stream of VectorSourcesThatAreDestinations (log 27), and for that instruction V_SRC_EQ_DST is then not refuse. -/
def Obligations.VectorMergesAndShifts : Prop :=
  Encodes 0o146 1 (fun i j k _ _ _ _ => .mergeSV i j k) ∧
  Encodes 0o147 1 (fun i j k _ _ _ _ => .mergeVV i j k) ∧
  Encodes 0o150 1 (fun i j k _ _ _ _ => .shlV i j k) ∧
  Encodes 0o151 1 (fun i j k _ _ _ _ => .shrV i j k) ∧
  Encodes 0o152 1 (fun i j k _ _ _ _ => .dshlV i j k) ∧
  Encodes 0o153 1 (fun i j k _ _ _ _ => .dshrV i j k) ∧
  ∀ (s : State) (i j k : Reg),
    ((i = k → s.params.vSrcEqDst ≠ .refuse) →
      WritesV (exec (.mergeSV i j k) s) s i
        (fun e => if s.vm.getLsbD (63 - e.val) then s.S j else s.stream i k e)) ∧
    ((i = j ∨ i = k → s.params.vSrcEqDst ≠ .refuse) →
      WritesV (exec (.mergeVV i j k) s) s i
        (fun e => if s.vm.getLsbD (63 - e.val) then s.stream i j e else s.stream i k e)) ∧
    ((i = j → s.params.vSrcEqDst ≠ .refuse) →
      WritesV (exec (.shlV i j k) s) s i
        (fun e => if (s.A k).toNat < 64 then BitVec.ofNat 64 ((s.stream i j e).toNat * 2 ^ (s.A k).toNat) else 0) ∧
      WritesV (exec (.shrV i j k) s) s i
        (fun e => if (s.A k).toNat < 64 then BitVec.ofNat 64 ((s.stream i j e).toNat / 2 ^ (s.A k).toNat) else 0) ∧
      (∀ next : Elem → Nat,
        (∀ e f : Elem, f.val = e.val + 1 → next e = if f.val < s.vlen then (s.stream i j f).toNat else 0) →
        next 63 = 0 →
        WritesV (exec (.dshlV i j k) s) s i
          (fun e => if (s.A k).toNat < 128 then
            BitVec.ofNat 64 (((s.stream i j e).toNat * 2 ^ 64 + next e) * 2 ^ (s.A k).toNat % 2 ^ 128 / 2 ^ 64)
            else 0)) ∧
      ∀ prev : Elem → Nat,
        (∀ e f : Elem, e.val = f.val + 1 → prev e = (s.stream i j f).toNat) → prev 0 = 0 →
        WritesV (exec (.dshrV i j k) s) s i
          (fun e => if (s.A k).toNat < 128 then
            BitVec.ofNat 64 ((prev e * 2 ^ 64 + (s.stream i j e).toNat) / 2 ^ (s.A k).toNat) else 0))

/-- The vector floating-point instructions deliver each element result and, where enabled, halt on a range error (R307, R308, R309, R310, R320, R321, R322, R323, R324, R325, R327, R328; derived). Each of the codes 154 to 157, 166, 167 and 170 to 175 decodes to its instruction (173iik to its special form, VectorSpecialForms). 154 to 157, 166, 167 and 170 to 175 write the word of their function to element e of V[i] for the elements below the vector length, whether or not it is a range error; without an error or with the enable off only P changes beside them; with an error and the enable on the signal is sent and the processor halts. (The state beside the outcome after a halt is the model's, log 28 and log 29; that the waiting writes are complete and nothing is outstanding is D13, log 30, DEDUCED.) (The form of the results is R290, the halt R344. That the enable governs the error of 167 like the others is the spec's own reading of R146, C15 of spec/90_conflicts.md, log 57.) A source V register that is also the destination is the stream of VectorSourcesThatAreDestinations (log 27), and for that instruction V_SRC_EQ_DST is then not refuse. -/
def Obligations.VectorFloatingPointResults : Prop :=
  Encodes 0o154 1 (fun i j k _ _ _ _ => .fmulSV i j k) ∧
  Encodes 0o155 1 (fun i j k _ _ _ _ => .fmulVV i j k) ∧
  Encodes 0o156 1 (fun i j k _ _ _ _ => .recipIterV i j k) ∧
  Encodes 0o157 1 (fun i j k _ _ _ _ => .rsqrtIterV i j k) ∧
  Encodes 0o166 1 (fun i _ k _ _ _ _ => .recipV i k) ∧
  Encodes 0o167 1 (fun i _ k _ _ _ _ => .rsqrtV i k) ∧
  Encodes 0o170 1 (fun i j k _ _ _ _ => .faddSV i j k) ∧
  Encodes 0o171 1 (fun i j k _ _ _ _ => .faddVV i j k) ∧
  Encodes 0o172 1 (fun i j k _ _ _ _ => .fsubSV i j k) ∧
  Encodes 0o173 1 (fun i j k _ _ _ _ => if i = j then .fnegV i k else .fsubVV i j k) ∧
  Encodes 0o174 1 (fun i _ k _ _ _ _ => .fixV i k) ∧
  Encodes 0o175 1 (fun i _ k _ _ _ _ => .fltV i k) ∧
  ∀ (s : State) (i j k : Reg),
    (i = k → s.params.vSrcEqDst ≠ .refuse) →
    WritesFpV (exec (.fmulSV i j k) s) s i (fun e => fmul (s.S j) (s.stream i k e)) ∧
    WritesFpV (exec (.faddSV i j k) s) s i (fun e => fadd (s.S j) (s.stream i k e)) ∧
    WritesFpV (exec (.fsubSV i j k) s) s i (fun e => fsub (s.S j) (s.stream i k e)) ∧
    WritesFpV (exec (.recipV i k) s) s i (fun e => recipApprox (s.stream i k e)) ∧
    WritesFpV (exec (.rsqrtV i k) s) s i (fun e => rsqrtApprox (s.stream i k e)) ∧
    WritesFpV (exec (.fixV i k) s) s i (fun e => fix (s.stream i k e)) ∧
    WritesFpV (exec (.fltV i k) s) s i (fun e => flt (s.stream i k e)) ∧
    ((i = j → s.params.vSrcEqDst ≠ .refuse) →
      WritesFpV (exec (.fmulVV i j k) s) s i (fun e => fmul (s.stream i j e) (s.stream i k e)) ∧
      WritesFpV (exec (.recipIterV i j k) s) s i (fun e => recipIter (s.stream i j e) (s.stream i k e)) ∧
      WritesFpV (exec (.rsqrtIterV i j k) s) s i (fun e => rsqrtIter (s.stream i j e) (s.stream i k e)) ∧
      WritesFpV (exec (.faddVV i j k) s) s i (fun e => fadd (s.stream i j e) (s.stream i k e)) ∧
      WritesFpV (exec (.fsubVV i j k) s) s i (fun e => fsub (s.stream i j e) (s.stream i k e)))

/-- 176 and 177 compress the multiples of the stride at the 1 bits of the mask (R329, R330; derived). For each 1 bit of S[j] at position p from the high end with c such bits before it, element c of V[i] receives p times the low 32 bits of S[k] where 63 times them is below 2^32, and otherwise a value by one of the three readings of IOTA_ACC (log 41); elements from the number of 1 bits on, VL and everything else but P are as before. -/
def Obligations.CompressedIota : Prop :=
  Encodes 0o176 1 (fun i j k _ _ _ _ => .iota i j k) ∧ Encodes 0o177 1 (fun i j k _ _ _ _ => .iota177 i j k) ∧
  ∀ (s : State) (i j k : Reg) (x : Instr) (d : Addr), (x = .iota i j k ∨ x = .iota177 i j k) →
    d = BitVec.ofNat 32 (s.S k).toNat →
    Completes (exec x s) s
      (fun l => l = .p ∨ ∃ e : Elem, l = .v i e ∧
        e.val < (Finset.univ.filter fun q : Fin 64 => (s.S j).getLsbD (63 - q.val)).card)
      (fun t => (∀ p c : Fin 64, (s.S j).getLsbD (63 - p.val) = true →
          c.val = (Finset.univ.filter fun q : Fin 64 => q < p ∧ (s.S j).getLsbD (63 - q.val)).card →
          (63 * d.toNat < 2 ^ 32 → t.V i c = BitVec.ofNat 64 (p.val * d.toNat)) ∧
          ∃ acc : IotaAcc, t.V i c = iotaBy acc p.val d) ∧
        t.p = s.p + 1)

/-- 035 with k of 4 or more and 106 and 164 with k of 2 or more stop by name (R98, R208, R258, R318; derived). The sub-codes to which the spec gives no meaning decode to constructors of their own, and each is refused in every state by the name undescribedSubcode (D10, D11, log 26). -/
def Obligations.UndescribedSubcodesAreRefused : Prop :=
  (∀ (i j k : Reg) (m1 m2 m3 m4 : Parcel),
    (4 ≤ k.val → ∃ n, decodeParcels (parcelOf 0o035 i j k) m1 m2 m3 m4 = .sub035 n) ∧
    (2 ≤ k.val → (∃ n, decodeParcels (parcelOf 0o106 i j k) m1 m2 m3 m4 = .sub106a i j n) ∨
      ∃ n, decodeParcels (parcelOf 0o106 i j k) m1 m2 m3 m4 = .sub106b i j n) ∧
    (2 ≤ k.val → (∃ n, decodeParcels (parcelOf 0o164 i j k) m1 m2 m3 m4 = .sub164a i j n) ∨
      ∃ n, decodeParcels (parcelOf 0o164 i j k) m1 m2 m3 m4 = .sub164b i j n)) ∧
  ∀ (s : State) (i j : Reg) (n : Fin 2) (m : Fin 4),
    exec (.sub035 m) s = .refused .undescribedSubcode ∧
    exec (.sub106a i j n) s = .refused .undescribedSubcode ∧ exec (.sub106b i j m) s = .refused .undescribedSubcode ∧
    exec (.sub164a i j n) s = .refused .undescribedSubcode ∧ exec (.sub164b i j m) s = .refused .undescribedSubcode

/-- A reference in the field where no storage is installed faults by name (R52, R57, R60, R61, R62, R234; derived). The model's treatment of a point that R52 leaves open (log 42): each of 060 to 067 whose address, and each of 070 to 073 one of whose addresses in force, is in the field and at or above CM_WORDS faults with beyondInstalledMemory; so does a step whose instruction has a parcel there and none in a word stored to in this computation period. (A launch by the premise of R62 has no such address in its field.) -/
def Obligations.ReferencesBeyondInstalledMemoryFault : Prop :=
  (∀ (s : State) (x : Instr) (i : Reg) (a : Addr), ScalarStore s x i a ∨ ScalarLoad s x i a →
    InRange s a → s.params.cmWords ≤ a.toNat → exec x s = .fault .beyondInstalledMemory) ∧
  (∀ (s : State) (x : Instr) (i : Reg) (a : Elem → Addr) (e : Elem), VectorReference s x i a →
    e.val < s.vlen → InRange s (a e) → s.params.cmWords ≤ (a e).toNat →
    exec x s = .fault .beyondInstalledMemory) ∧
  ∀ (s : State) (q : Nat), s.run = .running → q < parcelCount (fieldF (s.fetchParcel s.p).parcel) →
    (∀ r, r < parcelCount (fieldF (s.fetchParcel s.p).parcel) →
      (s.fetchParcel (s.p + BitVec.ofNat 32 r)).stale = false) →
    (s.fetchParcel (s.p + BitVec.ofNat 32 q)).missing = true → step s = .fault .beyondInstalledMemory
end

