-- ==== Sys2Proof/Laws/Decode.lean ====
section
/-! SUPPORT. The fields of an encoded parcel: what each field function reads from a parcel that the encoder writes. -/

namespace Sys2Proof

/-- Each bit of a parcel comes from its field (R90). -/
theorem getLsbD_parcelOf (f : BitVec 7) (i j k : Reg) (n : Nat) :
    (parcelOf f i j k).getLsbD n =
      if n < 3 then (BitVec.ofFin k : BitVec 3).getLsbD n
      else if n < 6 then (BitVec.ofFin j : BitVec 3).getLsbD (n - 3)
      else if n < 9 then (BitVec.ofFin i : BitVec 3).getLsbD (n - 6)
      else f.getLsbD (n - 9) := by
  simp only [parcelOf, BitVec.getLsbD_append]
  by_cases h1 : n < 3
  · simp [h1]
  · by_cases h2 : n < 6
    · simp [h1, h2, show n - 3 < 3 by omega]
    · by_cases h3 : n < 9
      · simp [h1, h2, h3, show ¬ n - 3 < 3 by omega, show n - 3 - 3 = n - 6 by omega, show n - 6 < 3 by omega]
      · simp [h1, h2, h3, show ¬ n - 3 < 3 by omega, show ¬ n - 3 - 3 < 3 by omega,
          show n - 3 - 3 - 3 = n - 9 by omega]

theorem extract_parcelOf_i (f : BitVec 7) (i j k : Reg) :
    (parcelOf f i j k).extractLsb' 6 3 = (BitVec.ofFin i : BitVec 3) := by
  ext n hn
  rw [BitVec.getElem_extractLsb', getLsbD_parcelOf, BitVec.getLsbD_eq_getElem hn |>.symm]
  simp [show ¬ 6 + n < 3 by omega, show 6 + n < 9 by omega]

theorem extract_parcelOf_j (f : BitVec 7) (i j k : Reg) :
    (parcelOf f i j k).extractLsb' 3 3 = (BitVec.ofFin j : BitVec 3) := by
  ext n hn
  rw [BitVec.getElem_extractLsb', getLsbD_parcelOf, BitVec.getLsbD_eq_getElem hn |>.symm]
  simp [show 3 + n < 6 by omega]

theorem extract_parcelOf_k (f : BitVec 7) (i j k : Reg) :
    (parcelOf f i j k).extractLsb' 0 3 = (BitVec.ofFin k : BitVec 3) := by
  ext n hn
  rw [BitVec.getElem_extractLsb', getLsbD_parcelOf, BitVec.getLsbD_eq_getElem hn |>.symm]
  simp [hn]

@[simp] theorem regI_parcelOf (f : BitVec 7) (i j k : Reg) : regI (parcelOf f i j k) = i := by
  rw [regI, extract_parcelOf_i]

@[simp] theorem regJ_parcelOf (f : BitVec 7) (i j k : Reg) : regJ (parcelOf f i j k) = j := by
  rw [regJ, extract_parcelOf_j]

@[simp] theorem regK_parcelOf (f : BitVec 7) (i j k : Reg) : regK (parcelOf f i j k) = k := by
  rw [regK, extract_parcelOf_k]

@[simp] theorem fieldF_parcelOf (f : BitVec 7) (i j k : Reg) : fieldF (parcelOf f i j k) = f := by
  ext n hn
  rw [fieldF, BitVec.getElem_extractLsb', getLsbD_parcelOf, BitVec.getLsbD_eq_getElem hn |>.symm]
  simp [show ¬ 9 + n < 3 by omega, show ¬ 9 + n < 6 by omega]

@[simp] theorem fieldJk_parcelOf (f : BitVec 7) (i j k : Reg) :
    fieldJk (parcelOf f i j k) = Machine.jkOf j k := by
  ext n hn
  rw [fieldJk, BitVec.getElem_extractLsb', getLsbD_parcelOf, Machine.jkOf, BitVec.getLsbD_eq_getElem hn |>.symm,
    BitVec.getLsbD_append]
  simp only [Nat.zero_add]
  split
  · rfl
  · simp

/-- Bit 15 of a parcel is the top bit of its code (R90). -/
@[simp] theorem topBit_parcelOf (f : BitVec 7) (i j k : Reg) : (parcelOf f i j k)[15] = f[6] := by
  rw [← BitVec.getLsbD_eq_getElem, getLsbD_parcelOf]; rfl

/-- The middle octal digit of the code (R90). -/
@[simp] theorem midDigit_parcelOf (f : BitVec 7) (i j k : Reg) :
    (parcelOf f i j k).extractLsb' 12 3 = f.extractLsb' 3 3 := by
  ext n hn
  rw [BitVec.getElem_extractLsb', BitVec.getElem_extractLsb', getLsbD_parcelOf]
  simp [show ¬ 12 + n < 3 by omega, show ¬ 12 + n < 6 by omega, show ¬ 12 + n < 9 by omega,
    show 12 + n - 9 = 3 + n by omega]

/-- The low octal digit of the code (R90). -/
@[simp] theorem lowDigit_parcelOf (f : BitVec 7) (i j k : Reg) :
    (parcelOf f i j k).extractLsb' 9 3 = f.extractLsb' 0 3 := by
  ext n hn
  rw [BitVec.getElem_extractLsb', BitVec.getElem_extractLsb', getLsbD_parcelOf]
  simp [show ¬ 9 + n < 3 by omega, show ¬ 9 + n < 6 by omega]

/-- A parcel with a field jk is a parcel of three designators (R91). -/
theorem parcelJk_eq (f : BitVec 7) (i : Reg) (jk : BitVec 6) :
    parcelJk f i jk = parcelOf f i (jk.extractLsb' 3 3).toFin (jk.extractLsb' 0 3).toFin := by
  apply BitVec.eq_of_getLsbD_eq
  intro n hn
  have hi : ∀ m, (BitVec.ofFin (jk.extractLsb' 3 3).toFin : BitVec 3).getLsbD m = (decide (m < 3) && jk.getLsbD (3 + m)) :=
    fun m => BitVec.getLsbD_extractLsb' ..
  have lo : ∀ m, (BitVec.ofFin (jk.extractLsb' 0 3).toFin : BitVec 3).getLsbD m = (decide (m < 3) && jk.getLsbD m) :=
    fun m => (BitVec.getLsbD_extractLsb' 0 3 jk m).trans (by rw [Nat.zero_add])
  rw [getLsbD_parcelOf, hi, lo]
  simp only [parcelJk, BitVec.getLsbD_append]
  by_cases h1 : n < 3
  · simp [h1, show n < 6 by omega]
  · by_cases h2 : n < 6
    · simp [h1, h2, show n - 3 < 3 by omega, show 3 + (n - 3) = n by omega]
    · by_cases h3 : n < 9
      · simp [h1, h2, h3, show n - 6 < 3 by omega]
      · simp [h1, h2, h3, show ¬ n - 6 < 3 by omega, show n - 6 - 3 = n - 9 by omega]

/-- The field jk of the two designators it is made of (R91). -/
theorem jkOf_digits (jk : BitVec 6) :
    Machine.jkOf (jk.extractLsb' 3 3).toFin (jk.extractLsb' 0 3).toFin = jk := by
  revert jk; decide

@[simp] theorem fieldJk_parcelJk (f : BitVec 7) (i : Reg) (jk : BitVec 6) : fieldJk (parcelJk f i jk) = jk := by
  rw [parcelJk_eq, fieldJk_parcelOf, jkOf_digits]

@[simp] theorem regI_parcelJk (f : BitVec 7) (i : Reg) (jk : BitVec 6) : regI (parcelJk f i jk) = i := by
  rw [parcelJk_eq, regI_parcelOf]

@[simp] theorem fieldF_parcelJk (f : BitVec 7) (i : Reg) (jk : BitVec 6) : fieldF (parcelJk f i jk) = f := by
  rw [parcelJk_eq, fieldF_parcelOf]

@[simp] theorem topBit_parcelJk (f : BitVec 7) (i : Reg) (jk : BitVec 6) : (parcelJk f i jk)[15] = f[6] := by
  rw [parcelJk_eq, topBit_parcelOf]

@[simp] theorem midDigit_parcelJk (f : BitVec 7) (i : Reg) (jk : BitVec 6) :
    (parcelJk f i jk).extractLsb' 12 3 = f.extractLsb' 3 3 := by
  rw [parcelJk_eq, midDigit_parcelOf]

@[simp] theorem lowDigit_parcelJk (f : BitVec 7) (i : Reg) (jk : BitVec 6) :
    (parcelJk f i jk).extractLsb' 9 3 = f.extractLsb' 0 3 := by
  rw [parcelJk_eq, lowDigit_parcelOf]

/-- The two parcels of a 32-bit constant, joined (R95). -/
@[simp] theorem join_constParcels (c : BitVec 32) :
    (c.extractLsb' 16 16 ++ c.extractLsb' 0 16 : BitVec 32) = c := by
  apply BitVec.eq_of_getLsbD_eq
  intro n hn
  simp only [BitVec.getLsbD_append, BitVec.getLsbD_extractLsb', Nat.zero_add]
  by_cases h1 : n < 16
  · simp [h1]
  · simp [h1, show n - 16 < 16 by omega, show 16 + (n - 16) = n by omega]

/-- The four parcels of a 64-bit constant, joined (R95). -/
@[simp] theorem join_fullParcels (d : BitVec 64) :
    (d.extractLsb' 48 16 ++ d.extractLsb' 32 16 ++ d.extractLsb' 16 16 ++ d.extractLsb' 0 16 : BitVec 64) = d := by
  apply BitVec.eq_of_getLsbD_eq
  intro n hn
  simp only [BitVec.getLsbD_append, BitVec.getLsbD_extractLsb', Nat.zero_add]
  by_cases h1 : n < 16
  · simp [h1]
  · by_cases h2 : n < 32
    · simp [h1, show n - 16 < 16 by omega, show 16 + (n - 16) = n by omega]
    · by_cases h3 : n < 48
      · simp [h1, show ¬ n - 16 < 16 by omega, show n - 16 - 16 < 16 by omega, show 32 + (n - 16 - 16) = n by omega]
      · simp [h1, show ¬ n - 16 < 16 by omega, show ¬ n - 16 - 16 < 16 by omega, show n - 16 - 16 - 16 < 16 by omega,
          show 48 + (n - 16 - 16 - 16) = n by omega]

end Sys2Proof
end

