-- ==== Sys2Proof/Laws/Fetch.lean ====
section
/-! SUPPORT. What a fetch gives: the place of a parcel, the parcels of the instruction at P, and what they decode to. -/

namespace Sys2Proof.Machine

variable (s : State)

/-- The word of a parcel address (R54, R56). -/
theorem State.parcelWord_eq (p : Addr) : s.parcelWord p = s.ba + BitVec.ofNat 32 (p.toNat / 4) := by
  unfold State.parcelWord State.cmAbs
  congr 1
  apply BitVec.eq_of_toNat_eq
  simp [Nat.shiftRight_eq_div_pow]
  omega

/-- The test of a reference says that the address is in the field (R61). -/
theorem State.inField_iff {s : State} {a : Addr} : s.inField a = true ↔ InRange s a := by
  simp [State.inField, InRange]

/-- A fetch outside the field (R57). -/
theorem State.fetchParcel_out {s : State} {p : Addr} (h : ¬ InRange s (s.parcelWord p)) :
    s.fetchParcel p = { parcel := 0, outOfField := true, missing := false, stale := false } := by
  unfold State.fetchParcel
  rw [if_neg (fun hf => h (State.inField_iff.1 hf))]

/-- The fetched parcels are those at P and after it that the code of the parcel at P takes (R94, R95). -/
theorem State.mem_fetched {s : State} {f : FetchedParcel} :
    f ∈ s.fetched ↔ ∃ q, q < parcelCount (fieldF (s.fetchParcel s.p).parcel) ∧
      f = s.fetchParcel (s.p + BitVec.ofNat 32 q) := by
  have pos : ∀ c : BitVec 7, 0 < parcelCount c := by decide
  have hpos := pos (fieldF (s.fetchParcel s.p).parcel)
  unfold State.fetched
  simp only [List.mem_cons, List.mem_map, List.mem_range]
  constructor
  · rintro (rfl | ⟨q, h, rfl⟩)
    · exact ⟨0, hpos, by simp⟩
    · exact ⟨q + 1, by omega, rfl⟩
  · rintro ⟨q, h, rfl⟩
    cases q with
    | zero => exact .inl (by simp)
    | succ q => exact .inr ⟨q, by omega, rfl⟩

/-- Parcels at P that decode to an instruction with nothing left over are the fetched ones, and decode to it there (R93, R95). -/
theorem State.fetched_of_decode {s : State} {ps : List Parcel} {i : Instr} (hd : decode ps = .ok (i, []))
    (h : ∀ (q : Nat) (h : q < ps.length), (s.fetchParcel (s.p + BitVec.ofNat 32 q)).parcel = ps[q]) :
    s.fetched = (List.range ps.length).map (fun q => s.fetchParcel (s.p + BitVec.ofNat 32 q)) ∧
      decodeFetched s.fetched = i := by
  cases ps with
  | nil => simp [decode] at hd
  | cons p ms =>
    simp only [decode] at hd
    split_ifs at hd
    simp only [Except.ok.injEq, Prod.mk.injEq] at hd
    have hlen : ms.length = parcelCount (fieldF p) - 1 := by
      have := congrArg List.length hd.2
      simp at this
      omega
    have h0 : (s.fetchParcel s.p).parcel = p := by
      have := h 0 (by simp)
      simpa using this
    have e : s.fetched = (List.range (p :: ms).length).map (fun q => s.fetchParcel (s.p + BitVec.ofNat 32 q)) := by
      unfold State.fetched
      dsimp only
      rw [h0, List.length_cons, List.range_succ_eq_map, hlen]
      simp [Function.comp_def]
    refine ⟨e, ?_⟩
    have e2 : s.fetched.map (·.parcel) = p :: ms := by
      rw [e]
      apply List.ext_getElem
      · simp
      · intro q _ h2
        simp only [List.getElem_map, List.getElem_range]
        exact h q h2
    rw [← hd.1]
    unfold decodeFetched
    rw [e2]
    simp

end Sys2Proof.Machine
end

