-- ==== Sys2Proof/Laws/Foreground.lean ====
section
/-! SUPPORT. What a launch of a computation period does: it starts an idle processor and leaves a running one as it is. -/

namespace Sys2Proof.Machine

variable (s : State) (r : LaunchRecord)

/-- An idle processor starts (R352, R353). -/
theorem State.launch_idle {s : State} (h : s.run = .idle) : s.launch r = s.startPeriod r := by
  rw [State.launch, h]

/-- A running processor stays as it is (R353; log 54). -/
theorem State.launch_running {s : State} (h : s.run = .running) : s.launch r = s := by
  rw [State.launch, h]

/-- A launch leaves a processor running (R353). -/
theorem State.launch_run : (s.launch r).run = .running := by
  cases h : s.run with
  | idle => rw [State.launch_idle r h]; rfl
  | running => rw [State.launch_running r h, h]

/-! What the start of a computation period leaves as it was (R385; log 54). -/

@[simp] theorem State.startPeriod_areg : (s.startPeriod r).areg = s.areg := rfl
@[simp] theorem State.startPeriod_sreg : (s.startPeriod r).sreg = s.sreg := rfl
@[simp] theorem State.startPeriod_vreg : (s.startPeriod r).vreg = s.vreg := rfl
@[simp] theorem State.startPeriod_vl : (s.startPeriod r).vl = s.vl := rfl
@[simp] theorem State.startPeriod_vm : (s.startPeriod r).vm = s.vm := rfl
@[simp] theorem State.startPeriod_rtc : (s.startPeriod r).rtc = s.rtc := rfl
@[simp] theorem State.startPeriod_lm : (s.startPeriod r).lm = s.lm := rfl
@[simp] theorem State.startPeriod_params : (s.startPeriod r).params = s.params := rfl
@[simp] theorem State.startPeriod_draws : (s.startPeriod r).draws = s.draws := rfl

/-! What it sets (R352, R382, R384). -/

@[simp] theorem State.startPeriod_p : (s.startPeriod r).p = r.p0 := rfl
@[simp] theorem State.startPeriod_ba : (s.startPeriod r).ba = r.ba := rfl
@[simp] theorem State.startPeriod_la : (s.startPeriod r).la = r.la := rfl
@[simp] theorem State.startPeriod_run : (s.startPeriod r).run = .running := rfl
@[simp] theorem State.startPeriod_ended : (s.startPeriod r).ended = none := rfl
@[simp] theorem State.startPeriod_cm : (s.startPeriod r).cm = r.load s.cm := rfl
@[simp] theorem State.startPeriod_port : (s.startPeriod r).port = Port.empty := rfl
@[simp] theorem State.startPeriod_dirty : (s.startPeriod r).dirty = [] := rfl
@[simp] theorem State.startPeriod_sr : (s.startPeriod r).sr = r.sr0 := rfl
@[simp] theorem State.startPeriod_bps : (s.startPeriod r).bps =
    { exitMode := false, idleMode := false, exitCode := 0, semSelect := r.semSelect, semBit := false,
      rangeHaltEnable := r.rangeHalt0, fpEnable := r.fpEnable0, rangeError := false, fpError := false } := rfl
@[simp] theorem State.startPeriod_sem :
    (s.startPeriod r).sem = s.sem.set r.semSelect.val r.sem0 r.semSelect.isLt := rfl

end Sys2Proof.Machine
end

