-- ==== Sys2Proof/Laws/State.lean ====
section
/-! SUPPORT. What each update of State leaves in each field, and what the register accessors read after it. Later proofs cite these and unfold no record update. -/

namespace Sys2Proof.Machine

variable (s : State)

/-! `setA`. -/

@[simp] theorem State.setA_p (n : Reg) (v : Addr) : (s.setA n v).p = s.p := rfl
@[simp] theorem State.setA_ba (n : Reg) (v : Addr) : (s.setA n v).ba = s.ba := rfl
@[simp] theorem State.setA_la (n : Reg) (v : Addr) : (s.setA n v).la = s.la := rfl
@[simp] theorem State.setA_areg (n : Reg) (v : Addr) : (s.setA n v).areg = s.areg.set n.val v n.isLt := rfl
@[simp] theorem State.setA_sreg (n : Reg) (v : Addr) : (s.setA n v).sreg = s.sreg := rfl
@[simp] theorem State.setA_vreg (n : Reg) (v : Addr) : (s.setA n v).vreg = s.vreg := rfl
@[simp] theorem State.setA_vl (n : Reg) (v : Addr) : (s.setA n v).vl = s.vl := rfl
@[simp] theorem State.setA_vm (n : Reg) (v : Addr) : (s.setA n v).vm = s.vm := rfl
@[simp] theorem State.setA_rtc (n : Reg) (v : Addr) : (s.setA n v).rtc = s.rtc := rfl
@[simp] theorem State.setA_bps (n : Reg) (v : Addr) : (s.setA n v).bps = s.bps := rfl
@[simp] theorem State.setA_run (n : Reg) (v : Addr) : (s.setA n v).run = s.run := rfl
@[simp] theorem State.setA_ended (n : Reg) (v : Addr) : (s.setA n v).ended = s.ended := rfl
@[simp] theorem State.setA_lm (n : Reg) (v : Addr) : (s.setA n v).lm = s.lm := rfl
@[simp] theorem State.setA_cm (n : Reg) (v : Addr) : (s.setA n v).cm = s.cm := rfl
@[simp] theorem State.setA_port (n : Reg) (v : Addr) : (s.setA n v).port = s.port := rfl
@[simp] theorem State.setA_dirty (n : Reg) (v : Addr) : (s.setA n v).dirty = s.dirty := rfl
@[simp] theorem State.setA_sem (n : Reg) (v : Addr) : (s.setA n v).sem = s.sem := rfl
@[simp] theorem State.setA_sr (n : Reg) (v : Addr) : (s.setA n v).sr = s.sr := rfl
@[simp] theorem State.setA_params (n : Reg) (v : Addr) : (s.setA n v).params = s.params := rfl
@[simp] theorem State.setA_draws (n : Reg) (v : Addr) : (s.setA n v).draws = s.draws := rfl
@[simp] theorem State.setA_S (n : Reg) (v : Addr) (m : Reg) : (s.setA n v).S m = s.S m := rfl
@[simp] theorem State.setA_V (n : Reg) (v : Addr) (m : Reg) (d : Elem) : (s.setA n v).V m d = s.V m d := rfl

/-! `setS`. -/

@[simp] theorem State.setS_p (n : Reg) (v : Word) : (s.setS n v).p = s.p := rfl
@[simp] theorem State.setS_ba (n : Reg) (v : Word) : (s.setS n v).ba = s.ba := rfl
@[simp] theorem State.setS_la (n : Reg) (v : Word) : (s.setS n v).la = s.la := rfl
@[simp] theorem State.setS_areg (n : Reg) (v : Word) : (s.setS n v).areg = s.areg := rfl
@[simp] theorem State.setS_sreg (n : Reg) (v : Word) : (s.setS n v).sreg = s.sreg.set n.val v n.isLt := rfl
@[simp] theorem State.setS_vreg (n : Reg) (v : Word) : (s.setS n v).vreg = s.vreg := rfl
@[simp] theorem State.setS_vl (n : Reg) (v : Word) : (s.setS n v).vl = s.vl := rfl
@[simp] theorem State.setS_vm (n : Reg) (v : Word) : (s.setS n v).vm = s.vm := rfl
@[simp] theorem State.setS_rtc (n : Reg) (v : Word) : (s.setS n v).rtc = s.rtc := rfl
@[simp] theorem State.setS_bps (n : Reg) (v : Word) : (s.setS n v).bps = s.bps := rfl
@[simp] theorem State.setS_run (n : Reg) (v : Word) : (s.setS n v).run = s.run := rfl
@[simp] theorem State.setS_ended (n : Reg) (v : Word) : (s.setS n v).ended = s.ended := rfl
@[simp] theorem State.setS_lm (n : Reg) (v : Word) : (s.setS n v).lm = s.lm := rfl
@[simp] theorem State.setS_cm (n : Reg) (v : Word) : (s.setS n v).cm = s.cm := rfl
@[simp] theorem State.setS_port (n : Reg) (v : Word) : (s.setS n v).port = s.port := rfl
@[simp] theorem State.setS_dirty (n : Reg) (v : Word) : (s.setS n v).dirty = s.dirty := rfl
@[simp] theorem State.setS_sem (n : Reg) (v : Word) : (s.setS n v).sem = s.sem := rfl
@[simp] theorem State.setS_sr (n : Reg) (v : Word) : (s.setS n v).sr = s.sr := rfl
@[simp] theorem State.setS_params (n : Reg) (v : Word) : (s.setS n v).params = s.params := rfl
@[simp] theorem State.setS_draws (n : Reg) (v : Word) : (s.setS n v).draws = s.draws := rfl
@[simp] theorem State.setS_A (n : Reg) (v : Word) (m : Reg) : (s.setS n v).A m = s.A m := rfl
@[simp] theorem State.setS_V (n : Reg) (v : Word) (m : Reg) (d : Elem) : (s.setS n v).V m d = s.V m d := rfl

/-! `setVect`. -/

@[simp] theorem State.setVect_p (n : Reg) (v : Vect) : (s.setVect n v).p = s.p := rfl
@[simp] theorem State.setVect_ba (n : Reg) (v : Vect) : (s.setVect n v).ba = s.ba := rfl
@[simp] theorem State.setVect_la (n : Reg) (v : Vect) : (s.setVect n v).la = s.la := rfl
@[simp] theorem State.setVect_areg (n : Reg) (v : Vect) : (s.setVect n v).areg = s.areg := rfl
@[simp] theorem State.setVect_sreg (n : Reg) (v : Vect) : (s.setVect n v).sreg = s.sreg := rfl
@[simp] theorem State.setVect_vreg (n : Reg) (v : Vect) : (s.setVect n v).vreg = s.vreg.set n.val v n.isLt := rfl
@[simp] theorem State.setVect_vl (n : Reg) (v : Vect) : (s.setVect n v).vl = s.vl := rfl
@[simp] theorem State.setVect_vm (n : Reg) (v : Vect) : (s.setVect n v).vm = s.vm := rfl
@[simp] theorem State.setVect_rtc (n : Reg) (v : Vect) : (s.setVect n v).rtc = s.rtc := rfl
@[simp] theorem State.setVect_bps (n : Reg) (v : Vect) : (s.setVect n v).bps = s.bps := rfl
@[simp] theorem State.setVect_run (n : Reg) (v : Vect) : (s.setVect n v).run = s.run := rfl
@[simp] theorem State.setVect_ended (n : Reg) (v : Vect) : (s.setVect n v).ended = s.ended := rfl
@[simp] theorem State.setVect_lm (n : Reg) (v : Vect) : (s.setVect n v).lm = s.lm := rfl
@[simp] theorem State.setVect_cm (n : Reg) (v : Vect) : (s.setVect n v).cm = s.cm := rfl
@[simp] theorem State.setVect_port (n : Reg) (v : Vect) : (s.setVect n v).port = s.port := rfl
@[simp] theorem State.setVect_dirty (n : Reg) (v : Vect) : (s.setVect n v).dirty = s.dirty := rfl
@[simp] theorem State.setVect_sem (n : Reg) (v : Vect) : (s.setVect n v).sem = s.sem := rfl
@[simp] theorem State.setVect_sr (n : Reg) (v : Vect) : (s.setVect n v).sr = s.sr := rfl
@[simp] theorem State.setVect_params (n : Reg) (v : Vect) : (s.setVect n v).params = s.params := rfl
@[simp] theorem State.setVect_draws (n : Reg) (v : Vect) : (s.setVect n v).draws = s.draws := rfl
@[simp] theorem State.setVect_A (n : Reg) (v : Vect) (m : Reg) : (s.setVect n v).A m = s.A m := rfl
@[simp] theorem State.setVect_S (n : Reg) (v : Vect) (m : Reg) : (s.setVect n v).S m = s.S m := rfl

/-! `setElem`. -/

@[simp] theorem State.setElem_p (n : Reg) (e : Elem) (v : Word) : (s.setElem n e v).p = s.p := rfl
@[simp] theorem State.setElem_ba (n : Reg) (e : Elem) (v : Word) : (s.setElem n e v).ba = s.ba := rfl
@[simp] theorem State.setElem_la (n : Reg) (e : Elem) (v : Word) : (s.setElem n e v).la = s.la := rfl
@[simp] theorem State.setElem_areg (n : Reg) (e : Elem) (v : Word) : (s.setElem n e v).areg = s.areg := rfl
@[simp] theorem State.setElem_sreg (n : Reg) (e : Elem) (v : Word) : (s.setElem n e v).sreg = s.sreg := rfl
@[simp] theorem State.setElem_vreg (n : Reg) (e : Elem) (v : Word) : (s.setElem n e v).vreg = s.vreg.set n.val ((s.vreg.get n).set e.val v e.isLt) n.isLt := rfl
@[simp] theorem State.setElem_vl (n : Reg) (e : Elem) (v : Word) : (s.setElem n e v).vl = s.vl := rfl
@[simp] theorem State.setElem_vm (n : Reg) (e : Elem) (v : Word) : (s.setElem n e v).vm = s.vm := rfl
@[simp] theorem State.setElem_rtc (n : Reg) (e : Elem) (v : Word) : (s.setElem n e v).rtc = s.rtc := rfl
@[simp] theorem State.setElem_bps (n : Reg) (e : Elem) (v : Word) : (s.setElem n e v).bps = s.bps := rfl
@[simp] theorem State.setElem_run (n : Reg) (e : Elem) (v : Word) : (s.setElem n e v).run = s.run := rfl
@[simp] theorem State.setElem_ended (n : Reg) (e : Elem) (v : Word) : (s.setElem n e v).ended = s.ended := rfl
@[simp] theorem State.setElem_lm (n : Reg) (e : Elem) (v : Word) : (s.setElem n e v).lm = s.lm := rfl
@[simp] theorem State.setElem_cm (n : Reg) (e : Elem) (v : Word) : (s.setElem n e v).cm = s.cm := rfl
@[simp] theorem State.setElem_port (n : Reg) (e : Elem) (v : Word) : (s.setElem n e v).port = s.port := rfl
@[simp] theorem State.setElem_dirty (n : Reg) (e : Elem) (v : Word) : (s.setElem n e v).dirty = s.dirty := rfl
@[simp] theorem State.setElem_sem (n : Reg) (e : Elem) (v : Word) : (s.setElem n e v).sem = s.sem := rfl
@[simp] theorem State.setElem_sr (n : Reg) (e : Elem) (v : Word) : (s.setElem n e v).sr = s.sr := rfl
@[simp] theorem State.setElem_params (n : Reg) (e : Elem) (v : Word) : (s.setElem n e v).params = s.params := rfl
@[simp] theorem State.setElem_draws (n : Reg) (e : Elem) (v : Word) : (s.setElem n e v).draws = s.draws := rfl
@[simp] theorem State.setElem_A (n : Reg) (e : Elem) (v : Word) (m : Reg) : (s.setElem n e v).A m = s.A m := rfl
@[simp] theorem State.setElem_S (n : Reg) (e : Elem) (v : Word) (m : Reg) : (s.setElem n e v).S m = s.S m := rfl

/-! `setVl`. -/

@[simp] theorem State.setVl_p (v : BitVec 6) : (s.setVl v).p = s.p := rfl
@[simp] theorem State.setVl_ba (v : BitVec 6) : (s.setVl v).ba = s.ba := rfl
@[simp] theorem State.setVl_la (v : BitVec 6) : (s.setVl v).la = s.la := rfl
@[simp] theorem State.setVl_areg (v : BitVec 6) : (s.setVl v).areg = s.areg := rfl
@[simp] theorem State.setVl_sreg (v : BitVec 6) : (s.setVl v).sreg = s.sreg := rfl
@[simp] theorem State.setVl_vreg (v : BitVec 6) : (s.setVl v).vreg = s.vreg := rfl
@[simp] theorem State.setVl_vl (v : BitVec 6) : (s.setVl v).vl = v := rfl
@[simp] theorem State.setVl_vm (v : BitVec 6) : (s.setVl v).vm = s.vm := rfl
@[simp] theorem State.setVl_rtc (v : BitVec 6) : (s.setVl v).rtc = s.rtc := rfl
@[simp] theorem State.setVl_bps (v : BitVec 6) : (s.setVl v).bps = s.bps := rfl
@[simp] theorem State.setVl_run (v : BitVec 6) : (s.setVl v).run = s.run := rfl
@[simp] theorem State.setVl_ended (v : BitVec 6) : (s.setVl v).ended = s.ended := rfl
@[simp] theorem State.setVl_lm (v : BitVec 6) : (s.setVl v).lm = s.lm := rfl
@[simp] theorem State.setVl_cm (v : BitVec 6) : (s.setVl v).cm = s.cm := rfl
@[simp] theorem State.setVl_port (v : BitVec 6) : (s.setVl v).port = s.port := rfl
@[simp] theorem State.setVl_dirty (v : BitVec 6) : (s.setVl v).dirty = s.dirty := rfl
@[simp] theorem State.setVl_sem (v : BitVec 6) : (s.setVl v).sem = s.sem := rfl
@[simp] theorem State.setVl_sr (v : BitVec 6) : (s.setVl v).sr = s.sr := rfl
@[simp] theorem State.setVl_params (v : BitVec 6) : (s.setVl v).params = s.params := rfl
@[simp] theorem State.setVl_draws (v : BitVec 6) : (s.setVl v).draws = s.draws := rfl
@[simp] theorem State.setVl_A (v : BitVec 6) (m : Reg) : (s.setVl v).A m = s.A m := rfl
@[simp] theorem State.setVl_S (v : BitVec 6) (m : Reg) : (s.setVl v).S m = s.S m := rfl
@[simp] theorem State.setVl_V (v : BitVec 6) (m : Reg) (d : Elem) : (s.setVl v).V m d = s.V m d := rfl

/-! `setVm`. -/

@[simp] theorem State.setVm_p (v : Word) : (s.setVm v).p = s.p := rfl
@[simp] theorem State.setVm_ba (v : Word) : (s.setVm v).ba = s.ba := rfl
@[simp] theorem State.setVm_la (v : Word) : (s.setVm v).la = s.la := rfl
@[simp] theorem State.setVm_areg (v : Word) : (s.setVm v).areg = s.areg := rfl
@[simp] theorem State.setVm_sreg (v : Word) : (s.setVm v).sreg = s.sreg := rfl
@[simp] theorem State.setVm_vreg (v : Word) : (s.setVm v).vreg = s.vreg := rfl
@[simp] theorem State.setVm_vl (v : Word) : (s.setVm v).vl = s.vl := rfl
@[simp] theorem State.setVm_vm (v : Word) : (s.setVm v).vm = v := rfl
@[simp] theorem State.setVm_rtc (v : Word) : (s.setVm v).rtc = s.rtc := rfl
@[simp] theorem State.setVm_bps (v : Word) : (s.setVm v).bps = s.bps := rfl
@[simp] theorem State.setVm_run (v : Word) : (s.setVm v).run = s.run := rfl
@[simp] theorem State.setVm_ended (v : Word) : (s.setVm v).ended = s.ended := rfl
@[simp] theorem State.setVm_lm (v : Word) : (s.setVm v).lm = s.lm := rfl
@[simp] theorem State.setVm_cm (v : Word) : (s.setVm v).cm = s.cm := rfl
@[simp] theorem State.setVm_port (v : Word) : (s.setVm v).port = s.port := rfl
@[simp] theorem State.setVm_dirty (v : Word) : (s.setVm v).dirty = s.dirty := rfl
@[simp] theorem State.setVm_sem (v : Word) : (s.setVm v).sem = s.sem := rfl
@[simp] theorem State.setVm_sr (v : Word) : (s.setVm v).sr = s.sr := rfl
@[simp] theorem State.setVm_params (v : Word) : (s.setVm v).params = s.params := rfl
@[simp] theorem State.setVm_draws (v : Word) : (s.setVm v).draws = s.draws := rfl
@[simp] theorem State.setVm_A (v : Word) (m : Reg) : (s.setVm v).A m = s.A m := rfl
@[simp] theorem State.setVm_S (v : Word) (m : Reg) : (s.setVm v).S m = s.S m := rfl
@[simp] theorem State.setVm_V (v : Word) (m : Reg) (d : Elem) : (s.setVm v).V m d = s.V m d := rfl

/-! `setRtc`. -/

@[simp] theorem State.setRtc_p (v : Word) : (s.setRtc v).p = s.p := rfl
@[simp] theorem State.setRtc_ba (v : Word) : (s.setRtc v).ba = s.ba := rfl
@[simp] theorem State.setRtc_la (v : Word) : (s.setRtc v).la = s.la := rfl
@[simp] theorem State.setRtc_areg (v : Word) : (s.setRtc v).areg = s.areg := rfl
@[simp] theorem State.setRtc_sreg (v : Word) : (s.setRtc v).sreg = s.sreg := rfl
@[simp] theorem State.setRtc_vreg (v : Word) : (s.setRtc v).vreg = s.vreg := rfl
@[simp] theorem State.setRtc_vl (v : Word) : (s.setRtc v).vl = s.vl := rfl
@[simp] theorem State.setRtc_vm (v : Word) : (s.setRtc v).vm = s.vm := rfl
@[simp] theorem State.setRtc_rtc (v : Word) : (s.setRtc v).rtc = v := rfl
@[simp] theorem State.setRtc_bps (v : Word) : (s.setRtc v).bps = s.bps := rfl
@[simp] theorem State.setRtc_run (v : Word) : (s.setRtc v).run = s.run := rfl
@[simp] theorem State.setRtc_ended (v : Word) : (s.setRtc v).ended = s.ended := rfl
@[simp] theorem State.setRtc_lm (v : Word) : (s.setRtc v).lm = s.lm := rfl
@[simp] theorem State.setRtc_cm (v : Word) : (s.setRtc v).cm = s.cm := rfl
@[simp] theorem State.setRtc_port (v : Word) : (s.setRtc v).port = s.port := rfl
@[simp] theorem State.setRtc_dirty (v : Word) : (s.setRtc v).dirty = s.dirty := rfl
@[simp] theorem State.setRtc_sem (v : Word) : (s.setRtc v).sem = s.sem := rfl
@[simp] theorem State.setRtc_sr (v : Word) : (s.setRtc v).sr = s.sr := rfl
@[simp] theorem State.setRtc_params (v : Word) : (s.setRtc v).params = s.params := rfl
@[simp] theorem State.setRtc_draws (v : Word) : (s.setRtc v).draws = s.draws := rfl
@[simp] theorem State.setRtc_A (v : Word) (m : Reg) : (s.setRtc v).A m = s.A m := rfl
@[simp] theorem State.setRtc_S (v : Word) (m : Reg) : (s.setRtc v).S m = s.S m := rfl
@[simp] theorem State.setRtc_V (v : Word) (m : Reg) (d : Elem) : (s.setRtc v).V m d = s.V m d := rfl

/-! `setBps`. -/

@[simp] theorem State.setBps_p (b : Bps) : (s.setBps b).p = s.p := rfl
@[simp] theorem State.setBps_ba (b : Bps) : (s.setBps b).ba = s.ba := rfl
@[simp] theorem State.setBps_la (b : Bps) : (s.setBps b).la = s.la := rfl
@[simp] theorem State.setBps_areg (b : Bps) : (s.setBps b).areg = s.areg := rfl
@[simp] theorem State.setBps_sreg (b : Bps) : (s.setBps b).sreg = s.sreg := rfl
@[simp] theorem State.setBps_vreg (b : Bps) : (s.setBps b).vreg = s.vreg := rfl
@[simp] theorem State.setBps_vl (b : Bps) : (s.setBps b).vl = s.vl := rfl
@[simp] theorem State.setBps_vm (b : Bps) : (s.setBps b).vm = s.vm := rfl
@[simp] theorem State.setBps_rtc (b : Bps) : (s.setBps b).rtc = s.rtc := rfl
@[simp] theorem State.setBps_bps (b : Bps) : (s.setBps b).bps = b := rfl
@[simp] theorem State.setBps_run (b : Bps) : (s.setBps b).run = s.run := rfl
@[simp] theorem State.setBps_ended (b : Bps) : (s.setBps b).ended = s.ended := rfl
@[simp] theorem State.setBps_lm (b : Bps) : (s.setBps b).lm = s.lm := rfl
@[simp] theorem State.setBps_cm (b : Bps) : (s.setBps b).cm = s.cm := rfl
@[simp] theorem State.setBps_port (b : Bps) : (s.setBps b).port = s.port := rfl
@[simp] theorem State.setBps_dirty (b : Bps) : (s.setBps b).dirty = s.dirty := rfl
@[simp] theorem State.setBps_sem (b : Bps) : (s.setBps b).sem = s.sem := rfl
@[simp] theorem State.setBps_sr (b : Bps) : (s.setBps b).sr = s.sr := rfl
@[simp] theorem State.setBps_params (b : Bps) : (s.setBps b).params = s.params := rfl
@[simp] theorem State.setBps_draws (b : Bps) : (s.setBps b).draws = s.draws := rfl
@[simp] theorem State.setBps_A (b : Bps) (m : Reg) : (s.setBps b).A m = s.A m := rfl
@[simp] theorem State.setBps_S (b : Bps) (m : Reg) : (s.setBps b).S m = s.S m := rfl
@[simp] theorem State.setBps_V (b : Bps) (m : Reg) (d : Elem) : (s.setBps b).V m d = s.V m d := rfl

/-! `setSr`. -/

@[simp] theorem State.setSr_p (n : Reg) (v : Addr) : (s.setSr n v).p = s.p := rfl
@[simp] theorem State.setSr_ba (n : Reg) (v : Addr) : (s.setSr n v).ba = s.ba := rfl
@[simp] theorem State.setSr_la (n : Reg) (v : Addr) : (s.setSr n v).la = s.la := rfl
@[simp] theorem State.setSr_areg (n : Reg) (v : Addr) : (s.setSr n v).areg = s.areg := rfl
@[simp] theorem State.setSr_sreg (n : Reg) (v : Addr) : (s.setSr n v).sreg = s.sreg := rfl
@[simp] theorem State.setSr_vreg (n : Reg) (v : Addr) : (s.setSr n v).vreg = s.vreg := rfl
@[simp] theorem State.setSr_vl (n : Reg) (v : Addr) : (s.setSr n v).vl = s.vl := rfl
@[simp] theorem State.setSr_vm (n : Reg) (v : Addr) : (s.setSr n v).vm = s.vm := rfl
@[simp] theorem State.setSr_rtc (n : Reg) (v : Addr) : (s.setSr n v).rtc = s.rtc := rfl
@[simp] theorem State.setSr_bps (n : Reg) (v : Addr) : (s.setSr n v).bps = s.bps := rfl
@[simp] theorem State.setSr_run (n : Reg) (v : Addr) : (s.setSr n v).run = s.run := rfl
@[simp] theorem State.setSr_ended (n : Reg) (v : Addr) : (s.setSr n v).ended = s.ended := rfl
@[simp] theorem State.setSr_lm (n : Reg) (v : Addr) : (s.setSr n v).lm = s.lm := rfl
@[simp] theorem State.setSr_cm (n : Reg) (v : Addr) : (s.setSr n v).cm = s.cm := rfl
@[simp] theorem State.setSr_port (n : Reg) (v : Addr) : (s.setSr n v).port = s.port := rfl
@[simp] theorem State.setSr_dirty (n : Reg) (v : Addr) : (s.setSr n v).dirty = s.dirty := rfl
@[simp] theorem State.setSr_sem (n : Reg) (v : Addr) : (s.setSr n v).sem = s.sem := rfl
@[simp] theorem State.setSr_sr (n : Reg) (v : Addr) : (s.setSr n v).sr = s.sr.set n.val v n.isLt := rfl
@[simp] theorem State.setSr_params (n : Reg) (v : Addr) : (s.setSr n v).params = s.params := rfl
@[simp] theorem State.setSr_draws (n : Reg) (v : Addr) : (s.setSr n v).draws = s.draws := rfl
@[simp] theorem State.setSr_A (n : Reg) (v : Addr) (m : Reg) : (s.setSr n v).A m = s.A m := rfl
@[simp] theorem State.setSr_S (n : Reg) (v : Addr) (m : Reg) : (s.setSr n v).S m = s.S m := rfl
@[simp] theorem State.setSr_V (n : Reg) (v : Addr) (m : Reg) (d : Elem) : (s.setSr n v).V m d = s.V m d := rfl

/-! `setLm`. -/

@[simp] theorem State.setLm_p (l : Memory) : (s.setLm l).p = s.p := rfl
@[simp] theorem State.setLm_ba (l : Memory) : (s.setLm l).ba = s.ba := rfl
@[simp] theorem State.setLm_la (l : Memory) : (s.setLm l).la = s.la := rfl
@[simp] theorem State.setLm_areg (l : Memory) : (s.setLm l).areg = s.areg := rfl
@[simp] theorem State.setLm_sreg (l : Memory) : (s.setLm l).sreg = s.sreg := rfl
@[simp] theorem State.setLm_vreg (l : Memory) : (s.setLm l).vreg = s.vreg := rfl
@[simp] theorem State.setLm_vl (l : Memory) : (s.setLm l).vl = s.vl := rfl
@[simp] theorem State.setLm_vm (l : Memory) : (s.setLm l).vm = s.vm := rfl
@[simp] theorem State.setLm_rtc (l : Memory) : (s.setLm l).rtc = s.rtc := rfl
@[simp] theorem State.setLm_bps (l : Memory) : (s.setLm l).bps = s.bps := rfl
@[simp] theorem State.setLm_run (l : Memory) : (s.setLm l).run = s.run := rfl
@[simp] theorem State.setLm_ended (l : Memory) : (s.setLm l).ended = s.ended := rfl
@[simp] theorem State.setLm_lm (l : Memory) : (s.setLm l).lm = l := rfl
@[simp] theorem State.setLm_cm (l : Memory) : (s.setLm l).cm = s.cm := rfl
@[simp] theorem State.setLm_port (l : Memory) : (s.setLm l).port = s.port := rfl
@[simp] theorem State.setLm_dirty (l : Memory) : (s.setLm l).dirty = s.dirty := rfl
@[simp] theorem State.setLm_sem (l : Memory) : (s.setLm l).sem = s.sem := rfl
@[simp] theorem State.setLm_sr (l : Memory) : (s.setLm l).sr = s.sr := rfl
@[simp] theorem State.setLm_params (l : Memory) : (s.setLm l).params = s.params := rfl
@[simp] theorem State.setLm_draws (l : Memory) : (s.setLm l).draws = s.draws := rfl
@[simp] theorem State.setLm_A (l : Memory) (m : Reg) : (s.setLm l).A m = s.A m := rfl
@[simp] theorem State.setLm_S (l : Memory) (m : Reg) : (s.setLm l).S m = s.S m := rfl
@[simp] theorem State.setLm_V (l : Memory) (m : Reg) (d : Elem) : (s.setLm l).V m d = s.V m d := rfl

/-! `jump`. -/

@[simp] theorem State.jump_p (t : Addr) : (s.jump t).p = t := rfl
@[simp] theorem State.jump_ba (t : Addr) : (s.jump t).ba = s.ba := rfl
@[simp] theorem State.jump_la (t : Addr) : (s.jump t).la = s.la := rfl
@[simp] theorem State.jump_areg (t : Addr) : (s.jump t).areg = s.areg := rfl
@[simp] theorem State.jump_sreg (t : Addr) : (s.jump t).sreg = s.sreg := rfl
@[simp] theorem State.jump_vreg (t : Addr) : (s.jump t).vreg = s.vreg := rfl
@[simp] theorem State.jump_vl (t : Addr) : (s.jump t).vl = s.vl := rfl
@[simp] theorem State.jump_vm (t : Addr) : (s.jump t).vm = s.vm := rfl
@[simp] theorem State.jump_rtc (t : Addr) : (s.jump t).rtc = s.rtc := rfl
@[simp] theorem State.jump_bps (t : Addr) : (s.jump t).bps = s.bps := rfl
@[simp] theorem State.jump_run (t : Addr) : (s.jump t).run = s.run := rfl
@[simp] theorem State.jump_ended (t : Addr) : (s.jump t).ended = s.ended := rfl
@[simp] theorem State.jump_lm (t : Addr) : (s.jump t).lm = s.lm := rfl
@[simp] theorem State.jump_cm (t : Addr) : (s.jump t).cm = s.cm := rfl
@[simp] theorem State.jump_port (t : Addr) : (s.jump t).port = s.port := rfl
@[simp] theorem State.jump_dirty (t : Addr) : (s.jump t).dirty = s.dirty := rfl
@[simp] theorem State.jump_sem (t : Addr) : (s.jump t).sem = s.sem := rfl
@[simp] theorem State.jump_sr (t : Addr) : (s.jump t).sr = s.sr := rfl
@[simp] theorem State.jump_params (t : Addr) : (s.jump t).params = s.params := rfl
@[simp] theorem State.jump_draws (t : Addr) : (s.jump t).draws = s.draws := rfl
@[simp] theorem State.jump_A (t : Addr) (m : Reg) : (s.jump t).A m = s.A m := rfl
@[simp] theorem State.jump_S (t : Addr) (m : Reg) : (s.jump t).S m = s.S m := rfl
@[simp] theorem State.jump_V (t : Addr) (m : Reg) (d : Elem) : (s.jump t).V m d = s.V m d := rfl

/-! `advance`. -/

@[simp] theorem State.advance_p (len : Nat) : (s.advance len).p = s.p + BitVec.ofNat 32 len := rfl
@[simp] theorem State.advance_ba (len : Nat) : (s.advance len).ba = s.ba := rfl
@[simp] theorem State.advance_la (len : Nat) : (s.advance len).la = s.la := rfl
@[simp] theorem State.advance_areg (len : Nat) : (s.advance len).areg = s.areg := rfl
@[simp] theorem State.advance_sreg (len : Nat) : (s.advance len).sreg = s.sreg := rfl
@[simp] theorem State.advance_vreg (len : Nat) : (s.advance len).vreg = s.vreg := rfl
@[simp] theorem State.advance_vl (len : Nat) : (s.advance len).vl = s.vl := rfl
@[simp] theorem State.advance_vm (len : Nat) : (s.advance len).vm = s.vm := rfl
@[simp] theorem State.advance_rtc (len : Nat) : (s.advance len).rtc = s.rtc := rfl
@[simp] theorem State.advance_bps (len : Nat) : (s.advance len).bps = s.bps := rfl
@[simp] theorem State.advance_run (len : Nat) : (s.advance len).run = s.run := rfl
@[simp] theorem State.advance_ended (len : Nat) : (s.advance len).ended = s.ended := rfl
@[simp] theorem State.advance_lm (len : Nat) : (s.advance len).lm = s.lm := rfl
@[simp] theorem State.advance_cm (len : Nat) : (s.advance len).cm = s.cm := rfl
@[simp] theorem State.advance_port (len : Nat) : (s.advance len).port = s.port := rfl
@[simp] theorem State.advance_dirty (len : Nat) : (s.advance len).dirty = s.dirty := rfl
@[simp] theorem State.advance_sem (len : Nat) : (s.advance len).sem = s.sem := rfl
@[simp] theorem State.advance_sr (len : Nat) : (s.advance len).sr = s.sr := rfl
@[simp] theorem State.advance_params (len : Nat) : (s.advance len).params = s.params := rfl
@[simp] theorem State.advance_draws (len : Nat) : (s.advance len).draws = s.draws := rfl
@[simp] theorem State.advance_A (len : Nat) (m : Reg) : (s.advance len).A m = s.A m := rfl
@[simp] theorem State.advance_S (len : Nat) (m : Reg) : (s.advance len).S m = s.S m := rfl
@[simp] theorem State.advance_V (len : Nat) (m : Reg) (d : Elem) : (s.advance len).V m d = s.V m d := rfl

/-! `writeElems`. -/

@[simp] theorem State.writeElems_p (i : Reg) (n : Nat) (f : Elem → Word) : (s.writeElems i n f).p = s.p := rfl
@[simp] theorem State.writeElems_ba (i : Reg) (n : Nat) (f : Elem → Word) : (s.writeElems i n f).ba = s.ba := rfl
@[simp] theorem State.writeElems_la (i : Reg) (n : Nat) (f : Elem → Word) : (s.writeElems i n f).la = s.la := rfl
@[simp] theorem State.writeElems_areg (i : Reg) (n : Nat) (f : Elem → Word) : (s.writeElems i n f).areg = s.areg := rfl
@[simp] theorem State.writeElems_sreg (i : Reg) (n : Nat) (f : Elem → Word) : (s.writeElems i n f).sreg = s.sreg := rfl
@[simp] theorem State.writeElems_vreg (i : Reg) (n : Nat) (f : Elem → Word) : (s.writeElems i n f).vreg = s.vreg.set i.val (Vector.ofFn fun e => if e.val < n then f e else s.V i e) i.isLt := rfl
@[simp] theorem State.writeElems_vl (i : Reg) (n : Nat) (f : Elem → Word) : (s.writeElems i n f).vl = s.vl := rfl
@[simp] theorem State.writeElems_vm (i : Reg) (n : Nat) (f : Elem → Word) : (s.writeElems i n f).vm = s.vm := rfl
@[simp] theorem State.writeElems_rtc (i : Reg) (n : Nat) (f : Elem → Word) : (s.writeElems i n f).rtc = s.rtc := rfl
@[simp] theorem State.writeElems_bps (i : Reg) (n : Nat) (f : Elem → Word) : (s.writeElems i n f).bps = s.bps := rfl
@[simp] theorem State.writeElems_run (i : Reg) (n : Nat) (f : Elem → Word) : (s.writeElems i n f).run = s.run := rfl
@[simp] theorem State.writeElems_ended (i : Reg) (n : Nat) (f : Elem → Word) : (s.writeElems i n f).ended = s.ended := rfl
@[simp] theorem State.writeElems_lm (i : Reg) (n : Nat) (f : Elem → Word) : (s.writeElems i n f).lm = s.lm := rfl
@[simp] theorem State.writeElems_cm (i : Reg) (n : Nat) (f : Elem → Word) : (s.writeElems i n f).cm = s.cm := rfl
@[simp] theorem State.writeElems_port (i : Reg) (n : Nat) (f : Elem → Word) : (s.writeElems i n f).port = s.port := rfl
@[simp] theorem State.writeElems_dirty (i : Reg) (n : Nat) (f : Elem → Word) : (s.writeElems i n f).dirty = s.dirty := rfl
@[simp] theorem State.writeElems_sem (i : Reg) (n : Nat) (f : Elem → Word) : (s.writeElems i n f).sem = s.sem := rfl
@[simp] theorem State.writeElems_sr (i : Reg) (n : Nat) (f : Elem → Word) : (s.writeElems i n f).sr = s.sr := rfl
@[simp] theorem State.writeElems_params (i : Reg) (n : Nat) (f : Elem → Word) : (s.writeElems i n f).params = s.params := rfl
@[simp] theorem State.writeElems_draws (i : Reg) (n : Nat) (f : Elem → Word) : (s.writeElems i n f).draws = s.draws := rfl
@[simp] theorem State.writeElems_A (i : Reg) (n : Nat) (f : Elem → Word) (m : Reg) : (s.writeElems i n f).A m = s.A m := rfl
@[simp] theorem State.writeElems_S (i : Reg) (n : Nat) (f : Elem → Word) (m : Reg) : (s.writeElems i n f).S m = s.S m := rfl

/-! `land`. -/

@[simp] theorem State.land_p : (s.land).p = s.p := rfl
@[simp] theorem State.land_ba : (s.land).ba = s.ba := rfl
@[simp] theorem State.land_la : (s.land).la = s.la := rfl
@[simp] theorem State.land_areg : (s.land).areg = s.areg := rfl
@[simp] theorem State.land_sreg : (s.land).sreg = s.sreg := rfl
@[simp] theorem State.land_vreg : (s.land).vreg = s.vreg := rfl
@[simp] theorem State.land_vl : (s.land).vl = s.vl := rfl
@[simp] theorem State.land_vm : (s.land).vm = s.vm := rfl
@[simp] theorem State.land_rtc : (s.land).rtc = s.rtc := rfl
@[simp] theorem State.land_bps : (s.land).bps = s.bps := rfl
@[simp] theorem State.land_run : (s.land).run = s.run := rfl
@[simp] theorem State.land_ended : (s.land).ended = s.ended := rfl
@[simp] theorem State.land_lm : (s.land).lm = s.lm := rfl
@[simp] theorem State.land_cm : (s.land).cm = s.landed := rfl
@[simp] theorem State.land_port : (s.land).port = { writes := [], reads := s.port.reads } := rfl
@[simp] theorem State.land_dirty : (s.land).dirty = s.dirty := rfl
@[simp] theorem State.land_sem : (s.land).sem = s.sem := rfl
@[simp] theorem State.land_sr : (s.land).sr = s.sr := rfl
@[simp] theorem State.land_params : (s.land).params = s.params := rfl
@[simp] theorem State.land_draws : (s.land).draws = s.draws := rfl
@[simp] theorem State.land_A (m : Reg) : (s.land).A m = s.A m := rfl
@[simp] theorem State.land_S (m : Reg) : (s.land).S m = s.S m := rfl
@[simp] theorem State.land_V (m : Reg) (d : Elem) : (s.land).V m d = s.V m d := rfl

/-! `quiesce`. -/

@[simp] theorem State.quiesce_p : (s.quiesce).p = s.p := rfl
@[simp] theorem State.quiesce_ba : (s.quiesce).ba = s.ba := rfl
@[simp] theorem State.quiesce_la : (s.quiesce).la = s.la := rfl
@[simp] theorem State.quiesce_areg : (s.quiesce).areg = s.areg := rfl
@[simp] theorem State.quiesce_sreg : (s.quiesce).sreg = s.sreg := rfl
@[simp] theorem State.quiesce_vreg : (s.quiesce).vreg = s.vreg := rfl
@[simp] theorem State.quiesce_vl : (s.quiesce).vl = s.vl := rfl
@[simp] theorem State.quiesce_vm : (s.quiesce).vm = s.vm := rfl
@[simp] theorem State.quiesce_rtc : (s.quiesce).rtc = s.rtc := rfl
@[simp] theorem State.quiesce_bps : (s.quiesce).bps = s.bps := rfl
@[simp] theorem State.quiesce_run : (s.quiesce).run = s.run := rfl
@[simp] theorem State.quiesce_ended : (s.quiesce).ended = s.ended := rfl
@[simp] theorem State.quiesce_lm : (s.quiesce).lm = s.lm := rfl
@[simp] theorem State.quiesce_cm : (s.quiesce).cm = s.landed := rfl
@[simp] theorem State.quiesce_port : (s.quiesce).port = Port.empty := rfl
@[simp] theorem State.quiesce_dirty : (s.quiesce).dirty = s.dirty := rfl
@[simp] theorem State.quiesce_sem : (s.quiesce).sem = s.sem := rfl
@[simp] theorem State.quiesce_sr : (s.quiesce).sr = s.sr := rfl
@[simp] theorem State.quiesce_params : (s.quiesce).params = s.params := rfl
@[simp] theorem State.quiesce_draws : (s.quiesce).draws = s.draws := rfl
@[simp] theorem State.quiesce_A (m : Reg) : (s.quiesce).A m = s.A m := rfl
@[simp] theorem State.quiesce_S (m : Reg) : (s.quiesce).S m = s.S m := rfl
@[simp] theorem State.quiesce_V (m : Reg) (d : Elem) : (s.quiesce).V m d = s.V m d := rfl

/-! `stop`. -/

@[simp] theorem State.stop_p (why : RunEnd) (len : Nat) : (s.stop why len).p = (if Config.stopsPast s.draws then s.p + BitVec.ofNat 32 len else s.p) := rfl
@[simp] theorem State.stop_ba (why : RunEnd) (len : Nat) : (s.stop why len).ba = s.ba := rfl
@[simp] theorem State.stop_la (why : RunEnd) (len : Nat) : (s.stop why len).la = s.la := rfl
@[simp] theorem State.stop_areg (why : RunEnd) (len : Nat) : (s.stop why len).areg = s.areg := rfl
@[simp] theorem State.stop_sreg (why : RunEnd) (len : Nat) : (s.stop why len).sreg = s.sreg := rfl
@[simp] theorem State.stop_vreg (why : RunEnd) (len : Nat) : (s.stop why len).vreg = s.vreg := rfl
@[simp] theorem State.stop_vl (why : RunEnd) (len : Nat) : (s.stop why len).vl = s.vl := rfl
@[simp] theorem State.stop_vm (why : RunEnd) (len : Nat) : (s.stop why len).vm = s.vm := rfl
@[simp] theorem State.stop_rtc (why : RunEnd) (len : Nat) : (s.stop why len).rtc = s.rtc := rfl
@[simp] theorem State.stop_bps (why : RunEnd) (len : Nat) : (s.stop why len).bps = { s.bps with idleMode := true } := rfl
@[simp] theorem State.stop_run (why : RunEnd) (len : Nat) : (s.stop why len).run = .idle := rfl
@[simp] theorem State.stop_ended (why : RunEnd) (len : Nat) : (s.stop why len).ended = some why := rfl
@[simp] theorem State.stop_lm (why : RunEnd) (len : Nat) : (s.stop why len).lm = s.lm := rfl
@[simp] theorem State.stop_cm (why : RunEnd) (len : Nat) : (s.stop why len).cm = s.landed := rfl
@[simp] theorem State.stop_port (why : RunEnd) (len : Nat) : (s.stop why len).port = Port.empty := rfl
@[simp] theorem State.stop_dirty (why : RunEnd) (len : Nat) : (s.stop why len).dirty = s.dirty := rfl
@[simp] theorem State.stop_sem (why : RunEnd) (len : Nat) : (s.stop why len).sem = s.sem := rfl
@[simp] theorem State.stop_sr (why : RunEnd) (len : Nat) : (s.stop why len).sr = s.sr := rfl
@[simp] theorem State.stop_params (why : RunEnd) (len : Nat) : (s.stop why len).params = s.params := rfl
@[simp] theorem State.stop_draws (why : RunEnd) (len : Nat) : (s.stop why len).draws = s.draws := rfl
@[simp] theorem State.stop_A (why : RunEnd) (len : Nat) (m : Reg) : (s.stop why len).A m = s.A m := rfl
@[simp] theorem State.stop_S (why : RunEnd) (len : Nat) (m : Reg) : (s.stop why len).S m = s.S m := rfl
@[simp] theorem State.stop_V (why : RunEnd) (len : Nat) (m : Reg) (d : Elem) : (s.stop why len).V m d = s.V m d := rfl

/-! `signalRange`. -/

@[simp] theorem State.signalRange_p : (s.signalRange).p = s.p := rfl
@[simp] theorem State.signalRange_ba : (s.signalRange).ba = s.ba := rfl
@[simp] theorem State.signalRange_la : (s.signalRange).la = s.la := rfl
@[simp] theorem State.signalRange_areg : (s.signalRange).areg = s.areg := rfl
@[simp] theorem State.signalRange_sreg : (s.signalRange).sreg = s.sreg := rfl
@[simp] theorem State.signalRange_vreg : (s.signalRange).vreg = s.vreg := rfl
@[simp] theorem State.signalRange_vl : (s.signalRange).vl = s.vl := rfl
@[simp] theorem State.signalRange_vm : (s.signalRange).vm = s.vm := rfl
@[simp] theorem State.signalRange_rtc : (s.signalRange).rtc = s.rtc := rfl
@[simp] theorem State.signalRange_bps : (s.signalRange).bps = { s.bps with rangeError := true } := rfl
@[simp] theorem State.signalRange_run : (s.signalRange).run = s.run := rfl
@[simp] theorem State.signalRange_ended : (s.signalRange).ended = s.ended := rfl
@[simp] theorem State.signalRange_lm : (s.signalRange).lm = s.lm := rfl
@[simp] theorem State.signalRange_cm : (s.signalRange).cm = s.cm := rfl
@[simp] theorem State.signalRange_port : (s.signalRange).port = s.port := rfl
@[simp] theorem State.signalRange_dirty : (s.signalRange).dirty = s.dirty := rfl
@[simp] theorem State.signalRange_sem : (s.signalRange).sem = s.sem := rfl
@[simp] theorem State.signalRange_sr : (s.signalRange).sr = s.sr := rfl
@[simp] theorem State.signalRange_params : (s.signalRange).params = s.params := rfl
@[simp] theorem State.signalRange_draws : (s.signalRange).draws = s.draws := rfl
@[simp] theorem State.signalRange_A (m : Reg) : (s.signalRange).A m = s.A m := rfl
@[simp] theorem State.signalRange_S (m : Reg) : (s.signalRange).S m = s.S m := rfl
@[simp] theorem State.signalRange_V (m : Reg) (d : Elem) : (s.signalRange).V m d = s.V m d := rfl

/-! `lmWrite`. -/

@[simp] theorem State.lmWrite_p (n : Nat) (v : Word) : (s.lmWrite n v).p = s.p := rfl
@[simp] theorem State.lmWrite_ba (n : Nat) (v : Word) : (s.lmWrite n v).ba = s.ba := rfl
@[simp] theorem State.lmWrite_la (n : Nat) (v : Word) : (s.lmWrite n v).la = s.la := rfl
@[simp] theorem State.lmWrite_areg (n : Nat) (v : Word) : (s.lmWrite n v).areg = s.areg := rfl
@[simp] theorem State.lmWrite_sreg (n : Nat) (v : Word) : (s.lmWrite n v).sreg = s.sreg := rfl
@[simp] theorem State.lmWrite_vreg (n : Nat) (v : Word) : (s.lmWrite n v).vreg = s.vreg := rfl
@[simp] theorem State.lmWrite_vl (n : Nat) (v : Word) : (s.lmWrite n v).vl = s.vl := rfl
@[simp] theorem State.lmWrite_vm (n : Nat) (v : Word) : (s.lmWrite n v).vm = s.vm := rfl
@[simp] theorem State.lmWrite_rtc (n : Nat) (v : Word) : (s.lmWrite n v).rtc = s.rtc := rfl
@[simp] theorem State.lmWrite_bps (n : Nat) (v : Word) : (s.lmWrite n v).bps = s.bps := rfl
@[simp] theorem State.lmWrite_run (n : Nat) (v : Word) : (s.lmWrite n v).run = s.run := rfl
@[simp] theorem State.lmWrite_ended (n : Nat) (v : Word) : (s.lmWrite n v).ended = s.ended := rfl
@[simp] theorem State.lmWrite_lm (n : Nat) (v : Word) : (s.lmWrite n v).lm = s.lm.write n v := rfl
@[simp] theorem State.lmWrite_cm (n : Nat) (v : Word) : (s.lmWrite n v).cm = s.cm := rfl
@[simp] theorem State.lmWrite_port (n : Nat) (v : Word) : (s.lmWrite n v).port = s.port := rfl
@[simp] theorem State.lmWrite_dirty (n : Nat) (v : Word) : (s.lmWrite n v).dirty = s.dirty := rfl
@[simp] theorem State.lmWrite_sem (n : Nat) (v : Word) : (s.lmWrite n v).sem = s.sem := rfl
@[simp] theorem State.lmWrite_sr (n : Nat) (v : Word) : (s.lmWrite n v).sr = s.sr := rfl
@[simp] theorem State.lmWrite_params (n : Nat) (v : Word) : (s.lmWrite n v).params = s.params := rfl
@[simp] theorem State.lmWrite_draws (n : Nat) (v : Word) : (s.lmWrite n v).draws = s.draws := rfl
@[simp] theorem State.lmWrite_A (n : Nat) (v : Word) (m : Reg) : (s.lmWrite n v).A m = s.A m := rfl
@[simp] theorem State.lmWrite_S (n : Nat) (v : Word) (m : Reg) : (s.lmWrite n v).S m = s.S m := rfl
@[simp] theorem State.lmWrite_V (n : Nat) (v : Word) (m : Reg) (d : Elem) : (s.lmWrite n v).V m d = s.V m d := rfl

/-! `takeSem`. -/

@[simp] theorem State.takeSem_p : (s.takeSem).p = s.p := rfl
@[simp] theorem State.takeSem_ba : (s.takeSem).ba = s.ba := rfl
@[simp] theorem State.takeSem_la : (s.takeSem).la = s.la := rfl
@[simp] theorem State.takeSem_areg : (s.takeSem).areg = s.areg := rfl
@[simp] theorem State.takeSem_sreg : (s.takeSem).sreg = s.sreg := rfl
@[simp] theorem State.takeSem_vreg : (s.takeSem).vreg = s.vreg := rfl
@[simp] theorem State.takeSem_vl : (s.takeSem).vl = s.vl := rfl
@[simp] theorem State.takeSem_vm : (s.takeSem).vm = s.vm := rfl
@[simp] theorem State.takeSem_rtc : (s.takeSem).rtc = s.rtc := rfl
@[simp] theorem State.takeSem_bps : (s.takeSem).bps = { s.bps with semBit := s.bps.semBit || !s.semf } := rfl
@[simp] theorem State.takeSem_run : (s.takeSem).run = s.run := rfl
@[simp] theorem State.takeSem_ended : (s.takeSem).ended = s.ended := rfl
@[simp] theorem State.takeSem_lm : (s.takeSem).lm = s.lm := rfl
@[simp] theorem State.takeSem_cm : (s.takeSem).cm = s.cm := rfl
@[simp] theorem State.takeSem_port : (s.takeSem).port = s.port := rfl
@[simp] theorem State.takeSem_dirty : (s.takeSem).dirty = s.dirty := rfl
@[simp] theorem State.takeSem_sem : (s.takeSem).sem = s.sem.set s.bps.semSelect.val true s.bps.semSelect.isLt := rfl
@[simp] theorem State.takeSem_sr : (s.takeSem).sr = s.sr := rfl
@[simp] theorem State.takeSem_params : (s.takeSem).params = s.params := rfl
@[simp] theorem State.takeSem_draws : (s.takeSem).draws = s.draws := rfl
@[simp] theorem State.takeSem_A (m : Reg) : (s.takeSem).A m = s.A m := rfl
@[simp] theorem State.takeSem_S (m : Reg) : (s.takeSem).S m = s.S m := rfl
@[simp] theorem State.takeSem_V (m : Reg) (d : Elem) : (s.takeSem).V m d = s.V m d := rfl

/-! `dropSem`. -/

@[simp] theorem State.dropSem_p : (s.dropSem).p = s.p := rfl
@[simp] theorem State.dropSem_ba : (s.dropSem).ba = s.ba := rfl
@[simp] theorem State.dropSem_la : (s.dropSem).la = s.la := rfl
@[simp] theorem State.dropSem_areg : (s.dropSem).areg = s.areg := rfl
@[simp] theorem State.dropSem_sreg : (s.dropSem).sreg = s.sreg := rfl
@[simp] theorem State.dropSem_vreg : (s.dropSem).vreg = s.vreg := rfl
@[simp] theorem State.dropSem_vl : (s.dropSem).vl = s.vl := rfl
@[simp] theorem State.dropSem_vm : (s.dropSem).vm = s.vm := rfl
@[simp] theorem State.dropSem_rtc : (s.dropSem).rtc = s.rtc := rfl
@[simp] theorem State.dropSem_bps : (s.dropSem).bps = { s.bps with semBit := false } := rfl
@[simp] theorem State.dropSem_run : (s.dropSem).run = s.run := rfl
@[simp] theorem State.dropSem_ended : (s.dropSem).ended = s.ended := rfl
@[simp] theorem State.dropSem_lm : (s.dropSem).lm = s.lm := rfl
@[simp] theorem State.dropSem_cm : (s.dropSem).cm = s.cm := rfl
@[simp] theorem State.dropSem_port : (s.dropSem).port = s.port := rfl
@[simp] theorem State.dropSem_dirty : (s.dropSem).dirty = s.dirty := rfl
@[simp] theorem State.dropSem_sem : (s.dropSem).sem = s.sem.set s.bps.semSelect.val false s.bps.semSelect.isLt := rfl
@[simp] theorem State.dropSem_sr : (s.dropSem).sr = s.sr := rfl
@[simp] theorem State.dropSem_params : (s.dropSem).params = s.params := rfl
@[simp] theorem State.dropSem_draws : (s.dropSem).draws = s.draws := rfl
@[simp] theorem State.dropSem_A (m : Reg) : (s.dropSem).A m = s.A m := rfl
@[simp] theorem State.dropSem_S (m : Reg) : (s.dropSem).S m = s.S m := rfl
@[simp] theorem State.dropSem_V (m : Reg) (d : Elem) : (s.dropSem).V m d = s.V m d := rfl

/-! `tick`. -/

@[simp] theorem State.tick_p : (s.tick).p = s.p := rfl
@[simp] theorem State.tick_ba : (s.tick).ba = s.ba := rfl
@[simp] theorem State.tick_la : (s.tick).la = s.la := rfl
@[simp] theorem State.tick_areg : (s.tick).areg = s.areg := rfl
@[simp] theorem State.tick_sreg : (s.tick).sreg = s.sreg := rfl
@[simp] theorem State.tick_vreg : (s.tick).vreg = s.vreg := rfl
@[simp] theorem State.tick_vl : (s.tick).vl = s.vl := rfl
@[simp] theorem State.tick_vm : (s.tick).vm = s.vm := rfl
@[simp] theorem State.tick_rtc : (s.tick).rtc = s.rtc := rfl
@[simp] theorem State.tick_bps : (s.tick).bps = s.bps := rfl
@[simp] theorem State.tick_run : (s.tick).run = s.run := rfl
@[simp] theorem State.tick_ended : (s.tick).ended = s.ended := rfl
@[simp] theorem State.tick_lm : (s.tick).lm = s.lm := rfl
@[simp] theorem State.tick_cm : (s.tick).cm = s.cm := rfl
@[simp] theorem State.tick_port : (s.tick).port = s.port := rfl
@[simp] theorem State.tick_dirty : (s.tick).dirty = s.dirty := rfl
@[simp] theorem State.tick_sem : (s.tick).sem = s.sem := rfl
@[simp] theorem State.tick_sr : (s.tick).sr = s.sr := rfl
@[simp] theorem State.tick_params : (s.tick).params = s.params := rfl
@[simp] theorem State.tick_draws : (s.tick).draws = s.draws + 1 := rfl
@[simp] theorem State.tick_A (m : Reg) : (s.tick).A m = s.A m := rfl
@[simp] theorem State.tick_S (m : Reg) : (s.tick).S m = s.S m := rfl
@[simp] theorem State.tick_V (m : Reg) (d : Elem) : (s.tick).V m d = s.V m d := rfl

/-! `issue`. -/

@[simp] theorem State.issue_p (i : Instr) : (s.issue i).p = s.p := rfl
@[simp] theorem State.issue_ba (i : Instr) : (s.issue i).ba = s.ba := rfl
@[simp] theorem State.issue_la (i : Instr) : (s.issue i).la = s.la := rfl
@[simp] theorem State.issue_areg (i : Instr) : (s.issue i).areg = s.areg := rfl
@[simp] theorem State.issue_sreg (i : Instr) : (s.issue i).sreg = s.sreg := rfl
@[simp] theorem State.issue_vreg (i : Instr) : (s.issue i).vreg = s.vreg := rfl
@[simp] theorem State.issue_vl (i : Instr) : (s.issue i).vl = s.vl := rfl
@[simp] theorem State.issue_vm (i : Instr) : (s.issue i).vm = s.vm := rfl
@[simp] theorem State.issue_rtc (i : Instr) : (s.issue i).rtc = s.rtc := rfl
@[simp] theorem State.issue_bps (i : Instr) : (s.issue i).bps = s.bps := rfl
@[simp] theorem State.issue_run (i : Instr) : (s.issue i).run = s.run := rfl
@[simp] theorem State.issue_ended (i : Instr) : (s.issue i).ended = s.ended := rfl
@[simp] theorem State.issue_lm (i : Instr) : (s.issue i).lm = s.lm := rfl
@[simp] theorem State.issue_cm (i : Instr) : (s.issue i).cm = s.cm := rfl
@[simp] theorem State.issue_port (i : Instr) : (s.issue i).port = { writes := s.port.writes, reads := s.port.reads.filter (fun r => !(registersNamed i).contains r.dest.register) } := rfl
@[simp] theorem State.issue_dirty (i : Instr) : (s.issue i).dirty = s.dirty := rfl
@[simp] theorem State.issue_sem (i : Instr) : (s.issue i).sem = s.sem := rfl
@[simp] theorem State.issue_sr (i : Instr) : (s.issue i).sr = s.sr := rfl
@[simp] theorem State.issue_params (i : Instr) : (s.issue i).params = s.params := rfl
@[simp] theorem State.issue_draws (i : Instr) : (s.issue i).draws = s.draws := rfl
@[simp] theorem State.issue_A (i : Instr) (m : Reg) : (s.issue i).A m = s.A m := rfl
@[simp] theorem State.issue_S (i : Instr) (m : Reg) : (s.issue i).S m = s.S m := rfl
@[simp] theorem State.issue_V (i : Instr) (m : Reg) (d : Elem) : (s.issue i).V m d = s.V m d := rfl

/-! The registers that an update writes. -/

@[simp] theorem State.setA_A (n m : Reg) (v : Addr) : (s.setA n v).A m = if n = m then v else s.A m := by
  simp [State.A, State.setA, Vector.get_eq_getElem, Vector.getElem_set, Fin.ext_iff]

@[simp] theorem State.setS_S (n m : Reg) (v : Word) : (s.setS n v).S m = if n = m then v else s.S m := by
  simp [State.S, State.setS, Vector.get_eq_getElem, Vector.getElem_set, Fin.ext_iff]

@[simp] theorem State.setVect_V (n m : Reg) (v : Vect) (d : Elem) :
    (s.setVect n v).V m d = if n = m then v.get d else s.V m d := by
  by_cases h : n = m
  · subst h
    simp [State.V, State.setVect, Vector.get_eq_getElem]
  · have h' : ¬ n.val = m.val := fun e => h (Fin.ext e)
    simp [State.V, State.setVect, Vector.get_eq_getElem, h, h']

@[simp] theorem State.setElem_V (n m : Reg) (e d : Elem) (v : Word) :
    (s.setElem n e v).V m d = if n = m ∧ e = d then v else s.V m d := by
  unfold State.setElem
  by_cases h : n = m
  · subst h
    simp [State.V, Vector.get_eq_getElem, Vector.getElem_set, Fin.ext_iff]
  · simp [h]

@[simp] theorem State.writeElems_V (i m : Reg) (n : Nat) (f : Elem → Word) (d : Elem) :
    (s.writeElems i n f).V m d = if i = m ∧ d.val < n then f d else s.V m d := by
  unfold State.writeElems
  by_cases h : i = m
  · subst h
    simp [Vector.get_eq_getElem]
  · simp [h]

@[simp] theorem State.setSr_get (n m : Reg) (v : Addr) :
    (s.setSr n v).sr.get m = if n = m then v else s.sr.get m := by
  simp [State.setSr, Vector.get_eq_getElem, Vector.getElem_set, Fin.ext_iff]

/-- The flags after `takeSem` and `dropSem`: only the assigned one is written. -/
@[simp] theorem sem_set_get (v : Vector Bool 8) (n m : Reg) (b : Bool) :
    (v.set n.val b n.isLt).get m = if n = m then b else v.get m := by
  simp [Vector.get_eq_getElem, Vector.getElem_set, Fin.ext_iff]

end Sys2Proof.Machine
end

