-- ==== Sys2Proof/Laws/Memory.lean ====
section
/-! SUPPORT. The laws of a memory: read after write, the frame of a write, and the canonical form, which every memory operation of the machine keeps. -/

namespace Sys2Proof.Machine

theorem Memory.read_insert (m : Memory) (a b : Nat) (v : Word) :
    (Memory.insert m a v).read b = if a = b then v else m.read b := by
  induction m with
  | nil => simp [Memory.insert, Memory.read]
  | cons c m ih =>
    obtain ⟨d, w⟩ := c
    rw [Memory.insert]
    split
    · simp [Memory.read]
    · split
      · rename_i h1 h2
        subst h2
        by_cases h : a = b <;> simp [Memory.read, h]
      · rename_i h1 h2
        simp only [Memory.read, ih]
        by_cases h : d = b
        · subst h; simp [h2]
        · simp [h]

theorem Memory.read_filter (m : Memory) (a b : Nat) :
    Memory.read (m.filter (fun c => c.1 ≠ a)) b = if a = b then Memory.unlisted else m.read b := by
  induction m with
  | nil => simp [Memory.read]
  | cons c m ih =>
    obtain ⟨d, w⟩ := c
    by_cases hd : d = a
    · subst hd
      simp only [List.filter_cons, ne_eq, not_true_eq_false, decide_false, Bool.false_eq_true, if_false]
      rw [show (List.filter (fun c => decide ¬c.1 = d) m) = m.filter (fun c => c.1 ≠ d) from rfl, ih]
      by_cases h : d = b <;> simp [Memory.read, h]
    · simp only [List.filter_cons, ne_eq, hd, not_false_eq_true, decide_true, if_true, Memory.read]
      rw [show (List.filter (fun c => decide ¬c.1 = a) m) = m.filter (fun c => c.1 ≠ a) from rfl, ih]
      by_cases h : d = b
      · subst h; simp [Ne.symm hd]
      · simp [h]

/-- A word reads as written, every other word as before. -/
@[simp] theorem Memory.read_write (m : Memory) (a b : Nat) (v : Word) :
    (Memory.write m a v).read b = if a = b then v else m.read b := by
  unfold Memory.write
  split
  · rename_i h; rw [Memory.read_filter, h]
  · exact Memory.read_insert m a b v

/-- The addresses of a list after an insertion. -/
theorem Memory.mem_insert {m : Memory} {a : Nat} {v : Word} {c : Nat × Word} (h : c ∈ Memory.insert m a v) :
    c = (a, v) ∨ c ∈ m := by
  induction m with
  | nil => simpa [Memory.insert] using h
  | cons d m ih =>
    obtain ⟨e, w⟩ := d
    rw [Memory.insert] at h
    split at h
    · simpa using h
    · split at h
      · rcases List.mem_cons.1 h with h | h
        · exact .inl h
        · exact .inr (List.mem_cons_of_mem _ h)
      · rcases List.mem_cons.1 h with h | h
        · exact .inr (by simp [h])
        · exact (ih h).imp id (List.mem_cons_of_mem _)

theorem Memory.wf_iff (bound : Nat) (m : Memory) :
    Memory.wf bound m = true ↔
      m.Pairwise (fun c d => c.1 < d.1) ∧ ∀ c ∈ m, c.1 < bound ∧ c.2 ≠ Memory.unlisted := by
  simp [Memory.wf]

theorem Memory.pairwise_insert {m : Memory} (a : Nat) (v : Word) (h : m.Pairwise (fun c d => c.1 < d.1)) :
    (Memory.insert m a v).Pairwise (fun c d => c.1 < d.1) := by
  induction m with
  | nil => simp [Memory.insert]
  | cons d m ih =>
    obtain ⟨e, w⟩ := d
    rw [List.pairwise_cons] at h
    rw [Memory.insert]
    split
    · rename_i h1
      refine List.pairwise_cons.2 ⟨?_, List.pairwise_cons.2 h⟩
      intro c hc
      rcases List.mem_cons.1 hc with rfl | hc
      · exact h1
      · exact h1.trans (h.1 c hc)
    · split
      · rename_i h1 h2
        subst h2
        exact List.pairwise_cons.2 h
      · rename_i h1 h2
        refine List.pairwise_cons.2 ⟨?_, ih h.2⟩
        intro c hc
        rcases Memory.mem_insert hc with rfl | hc
        · simp only; omega
        · exact h.1 c hc

/-- A write to an address below the bound keeps the canonical form. -/
theorem Memory.write_wf {bound : Nat} {m : Memory} {a : Nat} (v : Word) (h : Memory.wf bound m = true)
    (ha : a < bound) : Memory.wf bound (m.write a v) = true := by
  rw [Memory.wf_iff] at h ⊢
  unfold Memory.write
  split
  · exact ⟨h.1.filter _, fun c hc => h.2 c (List.mem_of_mem_filter hc)⟩
  · rename_i hv
    refine ⟨Memory.pairwise_insert a v h.1, fun c hc => ?_⟩
    rcases Memory.mem_insert hc with rfl | hc
    · exact ⟨ha, hv⟩
    · exact h.2 c hc

/-- Writes below the bound, one after another, keep the canonical form. -/
theorem Memory.foldl_write_wf {α : Type} {bound : Nat} (l : List α) (addr : α → Nat) (val : α → Word) {m : Memory}
    (h : Memory.wf bound m = true) (ha : ∀ x ∈ l, addr x < bound) :
    Memory.wf bound (l.foldl (fun m x => m.write (addr x) (val x)) m) = true := by
  induction l generalizing m with
  | nil => exact h
  | cons x l ih =>
    exact ih (Memory.write_wf _ h (ha x (by simp))) (fun y hy => ha y (List.mem_cons_of_mem _ hy))

/-- The word at an address that none of the writes names is unchanged. -/
theorem Memory.read_foldl_write_other {α : Type} (l : List α) (addr : α → Nat) (val : α → Word) (m : Memory) {b : Nat}
    (hb : ∀ x ∈ l, addr x ≠ b) : (l.foldl (fun m x => m.write (addr x) (val x)) m).read b = m.read b := by
  induction l generalizing m with
  | nil => rfl
  | cons x l ih =>
    rw [List.foldl_cons, ih _ (fun y hy => hb y (List.mem_cons_of_mem _ hy)), Memory.read_write,
      if_neg (hb x (by simp))]

/-- The word at an address that some of the writes name is one of the words written there, or as before. -/
theorem Memory.read_foldl_write {α : Type} (l : List α) (addr : α → Nat) (val : α → Word) (m : Memory) (b : Nat) :
    (l.foldl (fun m x => m.write (addr x) (val x)) m).read b = m.read b ∨
      ∃ x ∈ l, addr x = b ∧ (l.foldl (fun m x => m.write (addr x) (val x)) m).read b = val x := by
  induction l generalizing m with
  | nil => exact .inl rfl
  | cons x l ih =>
    rw [List.foldl_cons]
    rcases ih (m.write (addr x) (val x)) with h | ⟨y, hy, hb, h⟩
    · rw [h, Memory.read_write]
      by_cases hx : addr x = b
      · exact .inr ⟨x, by simp, hx, by simp [hx]⟩
      · exact .inl (by simp [hx])
    · exact .inr ⟨y, List.mem_cons_of_mem _ hy, hb, h⟩

/-- The canonical form of an empty memory. -/
theorem Memory.wf_nil (bound : Nat) : Memory.wf bound [] = true := by simp [Memory.wf]

/-- Completing the waiting writes keeps Common Memory canonical. -/
theorem State.landed_wf {s : State} {bound : Nat} (h : Memory.wf bound s.cm = true)
    (hw : ∀ w ∈ s.port.writes, w.addr < bound) : Memory.wf bound s.landed = true :=
  Memory.foldl_write_wf s.port.writes (·.addr) _ h hw

/-- Writing a Local Memory word keeps it canonical. -/
theorem State.lmWrite_wf {s : State} {n : Nat} (v : Word) (h : Memory.wf 16384 s.lm = true) (hn : n < 16384) :
    Memory.wf 16384 (s.lmWrite n v).lm = true := by
  simpa using Memory.write_wf v h hn

/-- A Local Memory place is below 16384. -/
theorem State.lmSlot_lt {s : State} {a : Addr} {n : Nat} (h : s.lmSlot a = some n) : n < 16384 := by
  unfold State.lmSlot at h
  split at h
  · simp only [Option.some.injEq] at h; omega
  · split at h
    · simp at h
    · simp only [Option.some.injEq] at h; omega

/-- The place of an element is below 16384. -/
theorem State.lmPlace_lt (s : State) (a : Addr) (e : Elem) : s.lmPlace a e < 16384 := by
  unfold State.lmPlace
  cases h : s.lmSlot (a + BitVec.ofNat 32 e.val) with
  | none => simp
  | some n => simpa using State.lmSlot_lt h

/-- Writing the elements of a vector keeps Local Memory canonical. -/
theorem State.lmWriteElems_wf {s : State} (a : Addr) (data : Elem → Word) (h : Memory.wf 16384 s.lm = true) :
    Memory.wf 16384 (s.lmWriteElems a data).lm = true := by
  simp only [State.lmWriteElems, State.setLm_lm]
  exact Memory.foldl_write_wf s.elements (s.lmPlace a) data h (fun e _ => s.lmPlace_lt a e)

end Sys2Proof.Machine
end

