-- ==== Sys2Proof/Laws/Ops.lean ====
section
/-! SUPPORT. The shared operations, each said once: what it can do and what it leaves alone. Proofs about meanings cite these and do not unfold the operations. -/

namespace Sys2Proof.Machine

variable (s : State)

/-! ## Which fields an operation may write -/

theorem State.branch_eq (b : Bool) (t : Addr) : s.branch b t = { s with p := (s.branch b t).p } := by
  cases b <;> rfl

theorem State.deliver_eq (d : LoadDest) (v : Word) :
    s.deliver d v = { s with sreg := (s.deliver d v).sreg, vreg := (s.deliver d v).vreg } := by
  cases d <;> rfl

theorem State.overtake_eq (draw e a : Nat) (v : Word) (k : Nat) (rs : List PendingRead) (s : State) :
    State.overtake draw e a v k rs s =
      { s with sreg := (State.overtake draw e a v k rs s).sreg, vreg := (State.overtake draw e a v k rs s).vreg } := by
  induction rs generalizing k s with
  | nil => rfl
  | cons r rs ih =>
    rw [State.overtake, ih]
    split
    · rw [State.deliver_eq]
    · rfl

theorem State.storeWord_eq (e a : Nat) (v : Word) :
    s.storeWord e a v =
      { s with
        sreg := (s.storeWord e a v).sreg
        vreg := (s.storeWord e a v).vreg
        port := { writes := s.port.writes ++ [{ addr := a, value := v }], reads := s.port.reads }
        dirty := s.dirty.insert a } := by
  unfold State.storeWord
  rw [State.overtake_eq]

theorem State.noteRead_eq (a : Nat) (d : LoadDest) : s.noteRead a d = { s with port := (s.noteRead a d).port } := by
  unfold State.noteRead
  split <;> rfl

theorem foldl_noteRead_eq (l : List Elem) (c : Elem → Bool) (a : Elem → Nat) (d : Elem → LoadDest) (t : State) :
    l.foldl (fun t e => if c e then t.noteRead (a e) (d e) else t) t =
      { t with port := (l.foldl (fun t e => if c e then t.noteRead (a e) (d e) else t) t).port } := by
  induction l generalizing t with
  | nil => rfl
  | cons e l ih =>
    rw [List.foldl_cons, ih]
    split
    · rw [State.noteRead_eq]
    · rfl

theorem State.noteReads_eq (i : Reg) (addr : Elem → Addr) (t : State) :
    s.noteReads i addr t = { t with port := (s.noteReads i addr t).port } :=
  foldl_noteRead_eq s.elements (fun e => s.inField (s.cmAbs (addr e))) _ _ t

theorem foldl_storeWord_eq (l : List Elem) (c : Elem → Bool) (a : Elem → Nat) (d : Elem → Word) (t : State) :
    l.foldl (fun t e => if c e then t.storeWord e.val (a e) (d e) else t) t =
      { t with
        sreg := (l.foldl (fun t e => if c e then t.storeWord e.val (a e) (d e) else t) t).sreg
        vreg := (l.foldl (fun t e => if c e then t.storeWord e.val (a e) (d e) else t) t).vreg
        port := { writes := t.port.writes ++ (l.filter c).map (fun e => { addr := a e, value := d e })
                  reads := t.port.reads }
        dirty := (l.foldl (fun t e => if c e then t.storeWord e.val (a e) (d e) else t) t).dirty } := by
  induction l generalizing t with
  | nil => simp
  | cons e l ih =>
    rw [List.foldl_cons, ih]
    by_cases h : c e = true
    · simp only [h, if_true, List.filter_cons_of_pos, List.map_cons]
      rw [State.storeWord_eq]
      simp
    · simp [h]

theorem State.storeElems_eq (addr : Elem → Addr) (data : Elem → Word) :
    s.storeElems addr data =
      { s with
        sreg := (s.storeElems addr data).sreg
        vreg := (s.storeElems addr data).vreg
        port := { writes := s.port.writes ++ (s.elements.filter (fun e => s.inField (s.cmAbs (addr e)))).map
                    (fun e => { addr := (s.cmAbs (addr e)).toNat, value := data e })
                  reads := s.port.reads }
        dirty := (s.storeElems addr data).dirty } :=
  foldl_storeWord_eq s.elements (fun e => s.inField (s.cmAbs (addr e))) _ data s

theorem State.settle_eq : s.settle = { s with cm := s.settle.cm, port := s.settle.port } := by
  unfold State.settle
  split <;> rfl

theorem State.completeRef_eq (err : Bool) (len : Nat) :
    s.completeRef err len =
      { s with
        p := (s.completeRef err len).p
        bps := (s.completeRef err len).bps
        run := (s.completeRef err len).run
        ended := (s.completeRef err len).ended
        cm := (s.completeRef err len).cm
        port := (s.completeRef err len).port } := by
  unfold State.completeRef
  split
  · split <;> rfl
  · rfl

theorem State.completeFp_eq (err : Bool) :
    s.completeFp err =
      { s with
        p := (s.completeFp err).p
        bps := (s.completeFp err).bps
        run := (s.completeFp err).run
        ended := (s.completeFp err).ended
        cm := (s.completeFp err).cm
        port := (s.completeFp err).port } := by
  unfold State.completeFp
  split <;> rfl

/-! The fields they leave alone, one by one. -/


@[simp] theorem State.branch_ba (b : Bool) (t : Addr) : (s.branch b t).ba = s.ba := (congrArg State.ba (s.branch_eq b t) :)
@[simp] theorem State.branch_la (b : Bool) (t : Addr) : (s.branch b t).la = s.la := (congrArg State.la (s.branch_eq b t) :)
@[simp] theorem State.branch_areg (b : Bool) (t : Addr) : (s.branch b t).areg = s.areg := (congrArg State.areg (s.branch_eq b t) :)
@[simp] theorem State.branch_sreg (b : Bool) (t : Addr) : (s.branch b t).sreg = s.sreg := (congrArg State.sreg (s.branch_eq b t) :)
@[simp] theorem State.branch_vreg (b : Bool) (t : Addr) : (s.branch b t).vreg = s.vreg := (congrArg State.vreg (s.branch_eq b t) :)
@[simp] theorem State.branch_vl (b : Bool) (t : Addr) : (s.branch b t).vl = s.vl := (congrArg State.vl (s.branch_eq b t) :)
@[simp] theorem State.branch_vm (b : Bool) (t : Addr) : (s.branch b t).vm = s.vm := (congrArg State.vm (s.branch_eq b t) :)
@[simp] theorem State.branch_rtc (b : Bool) (t : Addr) : (s.branch b t).rtc = s.rtc := (congrArg State.rtc (s.branch_eq b t) :)
@[simp] theorem State.branch_bps (b : Bool) (t : Addr) : (s.branch b t).bps = s.bps := (congrArg State.bps (s.branch_eq b t) :)
@[simp] theorem State.branch_run (b : Bool) (t : Addr) : (s.branch b t).run = s.run := (congrArg State.run (s.branch_eq b t) :)
@[simp] theorem State.branch_ended (b : Bool) (t : Addr) : (s.branch b t).ended = s.ended := (congrArg State.ended (s.branch_eq b t) :)
@[simp] theorem State.branch_lm (b : Bool) (t : Addr) : (s.branch b t).lm = s.lm := (congrArg State.lm (s.branch_eq b t) :)
@[simp] theorem State.branch_cm (b : Bool) (t : Addr) : (s.branch b t).cm = s.cm := (congrArg State.cm (s.branch_eq b t) :)
@[simp] theorem State.branch_port (b : Bool) (t : Addr) : (s.branch b t).port = s.port := (congrArg State.port (s.branch_eq b t) :)
@[simp] theorem State.branch_dirty (b : Bool) (t : Addr) : (s.branch b t).dirty = s.dirty := (congrArg State.dirty (s.branch_eq b t) :)
@[simp] theorem State.branch_sem (b : Bool) (t : Addr) : (s.branch b t).sem = s.sem := (congrArg State.sem (s.branch_eq b t) :)
@[simp] theorem State.branch_sr (b : Bool) (t : Addr) : (s.branch b t).sr = s.sr := (congrArg State.sr (s.branch_eq b t) :)
@[simp] theorem State.branch_params (b : Bool) (t : Addr) : (s.branch b t).params = s.params := (congrArg State.params (s.branch_eq b t) :)
@[simp] theorem State.branch_draws (b : Bool) (t : Addr) : (s.branch b t).draws = s.draws := (congrArg State.draws (s.branch_eq b t) :)
@[simp] theorem State.branch_A (b : Bool) (t : Addr) (m : Reg) : (s.branch b t).A m = s.A m := (congrArg (fun t => State.A t m) (s.branch_eq b t) :)
@[simp] theorem State.branch_S (b : Bool) (t : Addr) (m : Reg) : (s.branch b t).S m = s.S m := (congrArg (fun t => State.S t m) (s.branch_eq b t) :)
@[simp] theorem State.branch_V (b : Bool) (t : Addr) (m : Reg) (x : Elem) : (s.branch b t).V m x = s.V m x := (congrArg (fun t => State.V t m x) (s.branch_eq b t) :)

@[simp] theorem State.deliver_p (d : LoadDest) (v : Word) : (s.deliver d v).p = s.p := (congrArg State.p (s.deliver_eq d v) :)
@[simp] theorem State.deliver_ba (d : LoadDest) (v : Word) : (s.deliver d v).ba = s.ba := (congrArg State.ba (s.deliver_eq d v) :)
@[simp] theorem State.deliver_la (d : LoadDest) (v : Word) : (s.deliver d v).la = s.la := (congrArg State.la (s.deliver_eq d v) :)
@[simp] theorem State.deliver_areg (d : LoadDest) (v : Word) : (s.deliver d v).areg = s.areg := (congrArg State.areg (s.deliver_eq d v) :)
@[simp] theorem State.deliver_vl (d : LoadDest) (v : Word) : (s.deliver d v).vl = s.vl := (congrArg State.vl (s.deliver_eq d v) :)
@[simp] theorem State.deliver_vm (d : LoadDest) (v : Word) : (s.deliver d v).vm = s.vm := (congrArg State.vm (s.deliver_eq d v) :)
@[simp] theorem State.deliver_rtc (d : LoadDest) (v : Word) : (s.deliver d v).rtc = s.rtc := (congrArg State.rtc (s.deliver_eq d v) :)
@[simp] theorem State.deliver_bps (d : LoadDest) (v : Word) : (s.deliver d v).bps = s.bps := (congrArg State.bps (s.deliver_eq d v) :)
@[simp] theorem State.deliver_run (d : LoadDest) (v : Word) : (s.deliver d v).run = s.run := (congrArg State.run (s.deliver_eq d v) :)
@[simp] theorem State.deliver_ended (d : LoadDest) (v : Word) : (s.deliver d v).ended = s.ended := (congrArg State.ended (s.deliver_eq d v) :)
@[simp] theorem State.deliver_lm (d : LoadDest) (v : Word) : (s.deliver d v).lm = s.lm := (congrArg State.lm (s.deliver_eq d v) :)
@[simp] theorem State.deliver_cm (d : LoadDest) (v : Word) : (s.deliver d v).cm = s.cm := (congrArg State.cm (s.deliver_eq d v) :)
@[simp] theorem State.deliver_port (d : LoadDest) (v : Word) : (s.deliver d v).port = s.port := (congrArg State.port (s.deliver_eq d v) :)
@[simp] theorem State.deliver_dirty (d : LoadDest) (v : Word) : (s.deliver d v).dirty = s.dirty := (congrArg State.dirty (s.deliver_eq d v) :)
@[simp] theorem State.deliver_sem (d : LoadDest) (v : Word) : (s.deliver d v).sem = s.sem := (congrArg State.sem (s.deliver_eq d v) :)
@[simp] theorem State.deliver_sr (d : LoadDest) (v : Word) : (s.deliver d v).sr = s.sr := (congrArg State.sr (s.deliver_eq d v) :)
@[simp] theorem State.deliver_params (d : LoadDest) (v : Word) : (s.deliver d v).params = s.params := (congrArg State.params (s.deliver_eq d v) :)
@[simp] theorem State.deliver_draws (d : LoadDest) (v : Word) : (s.deliver d v).draws = s.draws := (congrArg State.draws (s.deliver_eq d v) :)
@[simp] theorem State.deliver_A (d : LoadDest) (v : Word) (m : Reg) : (s.deliver d v).A m = s.A m := (congrArg (fun t => State.A t m) (s.deliver_eq d v) :)

@[simp] theorem State.storeWord_p (e a : Nat) (v : Word) : (s.storeWord e a v).p = s.p := (congrArg State.p (s.storeWord_eq e a v) :)
@[simp] theorem State.storeWord_ba (e a : Nat) (v : Word) : (s.storeWord e a v).ba = s.ba := (congrArg State.ba (s.storeWord_eq e a v) :)
@[simp] theorem State.storeWord_la (e a : Nat) (v : Word) : (s.storeWord e a v).la = s.la := (congrArg State.la (s.storeWord_eq e a v) :)
@[simp] theorem State.storeWord_areg (e a : Nat) (v : Word) : (s.storeWord e a v).areg = s.areg := (congrArg State.areg (s.storeWord_eq e a v) :)
@[simp] theorem State.storeWord_vl (e a : Nat) (v : Word) : (s.storeWord e a v).vl = s.vl := (congrArg State.vl (s.storeWord_eq e a v) :)
@[simp] theorem State.storeWord_vm (e a : Nat) (v : Word) : (s.storeWord e a v).vm = s.vm := (congrArg State.vm (s.storeWord_eq e a v) :)
@[simp] theorem State.storeWord_rtc (e a : Nat) (v : Word) : (s.storeWord e a v).rtc = s.rtc := (congrArg State.rtc (s.storeWord_eq e a v) :)
@[simp] theorem State.storeWord_bps (e a : Nat) (v : Word) : (s.storeWord e a v).bps = s.bps := (congrArg State.bps (s.storeWord_eq e a v) :)
@[simp] theorem State.storeWord_run (e a : Nat) (v : Word) : (s.storeWord e a v).run = s.run := (congrArg State.run (s.storeWord_eq e a v) :)
@[simp] theorem State.storeWord_ended (e a : Nat) (v : Word) : (s.storeWord e a v).ended = s.ended := (congrArg State.ended (s.storeWord_eq e a v) :)
@[simp] theorem State.storeWord_lm (e a : Nat) (v : Word) : (s.storeWord e a v).lm = s.lm := (congrArg State.lm (s.storeWord_eq e a v) :)
@[simp] theorem State.storeWord_cm (e a : Nat) (v : Word) : (s.storeWord e a v).cm = s.cm := (congrArg State.cm (s.storeWord_eq e a v) :)
@[simp] theorem State.storeWord_sem (e a : Nat) (v : Word) : (s.storeWord e a v).sem = s.sem := (congrArg State.sem (s.storeWord_eq e a v) :)
@[simp] theorem State.storeWord_sr (e a : Nat) (v : Word) : (s.storeWord e a v).sr = s.sr := (congrArg State.sr (s.storeWord_eq e a v) :)
@[simp] theorem State.storeWord_params (e a : Nat) (v : Word) : (s.storeWord e a v).params = s.params := (congrArg State.params (s.storeWord_eq e a v) :)
@[simp] theorem State.storeWord_draws (e a : Nat) (v : Word) : (s.storeWord e a v).draws = s.draws := (congrArg State.draws (s.storeWord_eq e a v) :)
@[simp] theorem State.storeWord_A (e a : Nat) (v : Word) (m : Reg) : (s.storeWord e a v).A m = s.A m := (congrArg (fun t => State.A t m) (s.storeWord_eq e a v) :)

@[simp] theorem State.noteRead_p (a : Nat) (d : LoadDest) : (s.noteRead a d).p = s.p := (congrArg State.p (s.noteRead_eq a d) :)
@[simp] theorem State.noteRead_ba (a : Nat) (d : LoadDest) : (s.noteRead a d).ba = s.ba := (congrArg State.ba (s.noteRead_eq a d) :)
@[simp] theorem State.noteRead_la (a : Nat) (d : LoadDest) : (s.noteRead a d).la = s.la := (congrArg State.la (s.noteRead_eq a d) :)
@[simp] theorem State.noteRead_areg (a : Nat) (d : LoadDest) : (s.noteRead a d).areg = s.areg := (congrArg State.areg (s.noteRead_eq a d) :)
@[simp] theorem State.noteRead_sreg (a : Nat) (d : LoadDest) : (s.noteRead a d).sreg = s.sreg := (congrArg State.sreg (s.noteRead_eq a d) :)
@[simp] theorem State.noteRead_vreg (a : Nat) (d : LoadDest) : (s.noteRead a d).vreg = s.vreg := (congrArg State.vreg (s.noteRead_eq a d) :)
@[simp] theorem State.noteRead_vl (a : Nat) (d : LoadDest) : (s.noteRead a d).vl = s.vl := (congrArg State.vl (s.noteRead_eq a d) :)
@[simp] theorem State.noteRead_vm (a : Nat) (d : LoadDest) : (s.noteRead a d).vm = s.vm := (congrArg State.vm (s.noteRead_eq a d) :)
@[simp] theorem State.noteRead_rtc (a : Nat) (d : LoadDest) : (s.noteRead a d).rtc = s.rtc := (congrArg State.rtc (s.noteRead_eq a d) :)
@[simp] theorem State.noteRead_bps (a : Nat) (d : LoadDest) : (s.noteRead a d).bps = s.bps := (congrArg State.bps (s.noteRead_eq a d) :)
@[simp] theorem State.noteRead_run (a : Nat) (d : LoadDest) : (s.noteRead a d).run = s.run := (congrArg State.run (s.noteRead_eq a d) :)
@[simp] theorem State.noteRead_ended (a : Nat) (d : LoadDest) : (s.noteRead a d).ended = s.ended := (congrArg State.ended (s.noteRead_eq a d) :)
@[simp] theorem State.noteRead_lm (a : Nat) (d : LoadDest) : (s.noteRead a d).lm = s.lm := (congrArg State.lm (s.noteRead_eq a d) :)
@[simp] theorem State.noteRead_cm (a : Nat) (d : LoadDest) : (s.noteRead a d).cm = s.cm := (congrArg State.cm (s.noteRead_eq a d) :)
@[simp] theorem State.noteRead_dirty (a : Nat) (d : LoadDest) : (s.noteRead a d).dirty = s.dirty := (congrArg State.dirty (s.noteRead_eq a d) :)
@[simp] theorem State.noteRead_sem (a : Nat) (d : LoadDest) : (s.noteRead a d).sem = s.sem := (congrArg State.sem (s.noteRead_eq a d) :)
@[simp] theorem State.noteRead_sr (a : Nat) (d : LoadDest) : (s.noteRead a d).sr = s.sr := (congrArg State.sr (s.noteRead_eq a d) :)
@[simp] theorem State.noteRead_params (a : Nat) (d : LoadDest) : (s.noteRead a d).params = s.params := (congrArg State.params (s.noteRead_eq a d) :)
@[simp] theorem State.noteRead_draws (a : Nat) (d : LoadDest) : (s.noteRead a d).draws = s.draws := (congrArg State.draws (s.noteRead_eq a d) :)
@[simp] theorem State.noteRead_A (a : Nat) (d : LoadDest) (m : Reg) : (s.noteRead a d).A m = s.A m := (congrArg (fun t => State.A t m) (s.noteRead_eq a d) :)
@[simp] theorem State.noteRead_S (a : Nat) (d : LoadDest) (m : Reg) : (s.noteRead a d).S m = s.S m := (congrArg (fun t => State.S t m) (s.noteRead_eq a d) :)
@[simp] theorem State.noteRead_V (a : Nat) (d : LoadDest) (m : Reg) (x : Elem) : (s.noteRead a d).V m x = s.V m x := (congrArg (fun t => State.V t m x) (s.noteRead_eq a d) :)

@[simp] theorem State.storeElems_p (addr : Elem → Addr) (data : Elem → Word) : (s.storeElems addr data).p = s.p := (congrArg State.p (s.storeElems_eq addr data) :)
@[simp] theorem State.storeElems_ba (addr : Elem → Addr) (data : Elem → Word) : (s.storeElems addr data).ba = s.ba := (congrArg State.ba (s.storeElems_eq addr data) :)
@[simp] theorem State.storeElems_la (addr : Elem → Addr) (data : Elem → Word) : (s.storeElems addr data).la = s.la := (congrArg State.la (s.storeElems_eq addr data) :)
@[simp] theorem State.storeElems_areg (addr : Elem → Addr) (data : Elem → Word) : (s.storeElems addr data).areg = s.areg := (congrArg State.areg (s.storeElems_eq addr data) :)
@[simp] theorem State.storeElems_vl (addr : Elem → Addr) (data : Elem → Word) : (s.storeElems addr data).vl = s.vl := (congrArg State.vl (s.storeElems_eq addr data) :)
@[simp] theorem State.storeElems_vm (addr : Elem → Addr) (data : Elem → Word) : (s.storeElems addr data).vm = s.vm := (congrArg State.vm (s.storeElems_eq addr data) :)
@[simp] theorem State.storeElems_rtc (addr : Elem → Addr) (data : Elem → Word) : (s.storeElems addr data).rtc = s.rtc := (congrArg State.rtc (s.storeElems_eq addr data) :)
@[simp] theorem State.storeElems_bps (addr : Elem → Addr) (data : Elem → Word) : (s.storeElems addr data).bps = s.bps := (congrArg State.bps (s.storeElems_eq addr data) :)
@[simp] theorem State.storeElems_run (addr : Elem → Addr) (data : Elem → Word) : (s.storeElems addr data).run = s.run := (congrArg State.run (s.storeElems_eq addr data) :)
@[simp] theorem State.storeElems_ended (addr : Elem → Addr) (data : Elem → Word) : (s.storeElems addr data).ended = s.ended := (congrArg State.ended (s.storeElems_eq addr data) :)
@[simp] theorem State.storeElems_lm (addr : Elem → Addr) (data : Elem → Word) : (s.storeElems addr data).lm = s.lm := (congrArg State.lm (s.storeElems_eq addr data) :)
@[simp] theorem State.storeElems_cm (addr : Elem → Addr) (data : Elem → Word) : (s.storeElems addr data).cm = s.cm := (congrArg State.cm (s.storeElems_eq addr data) :)
@[simp] theorem State.storeElems_sem (addr : Elem → Addr) (data : Elem → Word) : (s.storeElems addr data).sem = s.sem := (congrArg State.sem (s.storeElems_eq addr data) :)
@[simp] theorem State.storeElems_sr (addr : Elem → Addr) (data : Elem → Word) : (s.storeElems addr data).sr = s.sr := (congrArg State.sr (s.storeElems_eq addr data) :)
@[simp] theorem State.storeElems_params (addr : Elem → Addr) (data : Elem → Word) : (s.storeElems addr data).params = s.params := (congrArg State.params (s.storeElems_eq addr data) :)
@[simp] theorem State.storeElems_draws (addr : Elem → Addr) (data : Elem → Word) : (s.storeElems addr data).draws = s.draws := (congrArg State.draws (s.storeElems_eq addr data) :)
@[simp] theorem State.storeElems_A (addr : Elem → Addr) (data : Elem → Word) (m : Reg) : (s.storeElems addr data).A m = s.A m := (congrArg (fun t => State.A t m) (s.storeElems_eq addr data) :)

@[simp] theorem State.settle_p : (s.settle).p = s.p := (congrArg State.p (s.settle_eq) :)
@[simp] theorem State.settle_ba : (s.settle).ba = s.ba := (congrArg State.ba (s.settle_eq) :)
@[simp] theorem State.settle_la : (s.settle).la = s.la := (congrArg State.la (s.settle_eq) :)
@[simp] theorem State.settle_areg : (s.settle).areg = s.areg := (congrArg State.areg (s.settle_eq) :)
@[simp] theorem State.settle_sreg : (s.settle).sreg = s.sreg := (congrArg State.sreg (s.settle_eq) :)
@[simp] theorem State.settle_vreg : (s.settle).vreg = s.vreg := (congrArg State.vreg (s.settle_eq) :)
@[simp] theorem State.settle_vl : (s.settle).vl = s.vl := (congrArg State.vl (s.settle_eq) :)
@[simp] theorem State.settle_vm : (s.settle).vm = s.vm := (congrArg State.vm (s.settle_eq) :)
@[simp] theorem State.settle_rtc : (s.settle).rtc = s.rtc := (congrArg State.rtc (s.settle_eq) :)
@[simp] theorem State.settle_bps : (s.settle).bps = s.bps := (congrArg State.bps (s.settle_eq) :)
@[simp] theorem State.settle_run : (s.settle).run = s.run := (congrArg State.run (s.settle_eq) :)
@[simp] theorem State.settle_ended : (s.settle).ended = s.ended := (congrArg State.ended (s.settle_eq) :)
@[simp] theorem State.settle_lm : (s.settle).lm = s.lm := (congrArg State.lm (s.settle_eq) :)
@[simp] theorem State.settle_dirty : (s.settle).dirty = s.dirty := (congrArg State.dirty (s.settle_eq) :)
@[simp] theorem State.settle_sem : (s.settle).sem = s.sem := (congrArg State.sem (s.settle_eq) :)
@[simp] theorem State.settle_sr : (s.settle).sr = s.sr := (congrArg State.sr (s.settle_eq) :)
@[simp] theorem State.settle_params : (s.settle).params = s.params := (congrArg State.params (s.settle_eq) :)
@[simp] theorem State.settle_draws : (s.settle).draws = s.draws := (congrArg State.draws (s.settle_eq) :)
@[simp] theorem State.settle_A (m : Reg) : (s.settle).A m = s.A m := (congrArg (fun t => State.A t m) (s.settle_eq) :)
@[simp] theorem State.settle_S (m : Reg) : (s.settle).S m = s.S m := (congrArg (fun t => State.S t m) (s.settle_eq) :)
@[simp] theorem State.settle_V (m : Reg) (x : Elem) : (s.settle).V m x = s.V m x := (congrArg (fun t => State.V t m x) (s.settle_eq) :)

@[simp] theorem State.completeRef_ba (err : Bool) (len : Nat) : (s.completeRef err len).ba = s.ba := (congrArg State.ba (s.completeRef_eq err len) :)
@[simp] theorem State.completeRef_la (err : Bool) (len : Nat) : (s.completeRef err len).la = s.la := (congrArg State.la (s.completeRef_eq err len) :)
@[simp] theorem State.completeRef_areg (err : Bool) (len : Nat) : (s.completeRef err len).areg = s.areg := (congrArg State.areg (s.completeRef_eq err len) :)
@[simp] theorem State.completeRef_sreg (err : Bool) (len : Nat) : (s.completeRef err len).sreg = s.sreg := (congrArg State.sreg (s.completeRef_eq err len) :)
@[simp] theorem State.completeRef_vreg (err : Bool) (len : Nat) : (s.completeRef err len).vreg = s.vreg := (congrArg State.vreg (s.completeRef_eq err len) :)
@[simp] theorem State.completeRef_vl (err : Bool) (len : Nat) : (s.completeRef err len).vl = s.vl := (congrArg State.vl (s.completeRef_eq err len) :)
@[simp] theorem State.completeRef_vm (err : Bool) (len : Nat) : (s.completeRef err len).vm = s.vm := (congrArg State.vm (s.completeRef_eq err len) :)
@[simp] theorem State.completeRef_rtc (err : Bool) (len : Nat) : (s.completeRef err len).rtc = s.rtc := (congrArg State.rtc (s.completeRef_eq err len) :)
@[simp] theorem State.completeRef_lm (err : Bool) (len : Nat) : (s.completeRef err len).lm = s.lm := (congrArg State.lm (s.completeRef_eq err len) :)
@[simp] theorem State.completeRef_dirty (err : Bool) (len : Nat) : (s.completeRef err len).dirty = s.dirty := (congrArg State.dirty (s.completeRef_eq err len) :)
@[simp] theorem State.completeRef_sem (err : Bool) (len : Nat) : (s.completeRef err len).sem = s.sem := (congrArg State.sem (s.completeRef_eq err len) :)
@[simp] theorem State.completeRef_sr (err : Bool) (len : Nat) : (s.completeRef err len).sr = s.sr := (congrArg State.sr (s.completeRef_eq err len) :)
@[simp] theorem State.completeRef_params (err : Bool) (len : Nat) : (s.completeRef err len).params = s.params := (congrArg State.params (s.completeRef_eq err len) :)
@[simp] theorem State.completeRef_draws (err : Bool) (len : Nat) : (s.completeRef err len).draws = s.draws := (congrArg State.draws (s.completeRef_eq err len) :)
@[simp] theorem State.completeRef_A (err : Bool) (len : Nat) (m : Reg) : (s.completeRef err len).A m = s.A m := (congrArg (fun t => State.A t m) (s.completeRef_eq err len) :)
@[simp] theorem State.completeRef_S (err : Bool) (len : Nat) (m : Reg) : (s.completeRef err len).S m = s.S m := (congrArg (fun t => State.S t m) (s.completeRef_eq err len) :)
@[simp] theorem State.completeRef_V (err : Bool) (len : Nat) (m : Reg) (x : Elem) : (s.completeRef err len).V m x = s.V m x := (congrArg (fun t => State.V t m x) (s.completeRef_eq err len) :)

@[simp] theorem State.completeFp_ba (err : Bool) : (s.completeFp err).ba = s.ba := (congrArg State.ba (s.completeFp_eq err) :)
@[simp] theorem State.completeFp_la (err : Bool) : (s.completeFp err).la = s.la := (congrArg State.la (s.completeFp_eq err) :)
@[simp] theorem State.completeFp_areg (err : Bool) : (s.completeFp err).areg = s.areg := (congrArg State.areg (s.completeFp_eq err) :)
@[simp] theorem State.completeFp_sreg (err : Bool) : (s.completeFp err).sreg = s.sreg := (congrArg State.sreg (s.completeFp_eq err) :)
@[simp] theorem State.completeFp_vreg (err : Bool) : (s.completeFp err).vreg = s.vreg := (congrArg State.vreg (s.completeFp_eq err) :)
@[simp] theorem State.completeFp_vl (err : Bool) : (s.completeFp err).vl = s.vl := (congrArg State.vl (s.completeFp_eq err) :)
@[simp] theorem State.completeFp_vm (err : Bool) : (s.completeFp err).vm = s.vm := (congrArg State.vm (s.completeFp_eq err) :)
@[simp] theorem State.completeFp_rtc (err : Bool) : (s.completeFp err).rtc = s.rtc := (congrArg State.rtc (s.completeFp_eq err) :)
@[simp] theorem State.completeFp_lm (err : Bool) : (s.completeFp err).lm = s.lm := (congrArg State.lm (s.completeFp_eq err) :)
@[simp] theorem State.completeFp_dirty (err : Bool) : (s.completeFp err).dirty = s.dirty := (congrArg State.dirty (s.completeFp_eq err) :)
@[simp] theorem State.completeFp_sem (err : Bool) : (s.completeFp err).sem = s.sem := (congrArg State.sem (s.completeFp_eq err) :)
@[simp] theorem State.completeFp_sr (err : Bool) : (s.completeFp err).sr = s.sr := (congrArg State.sr (s.completeFp_eq err) :)
@[simp] theorem State.completeFp_params (err : Bool) : (s.completeFp err).params = s.params := (congrArg State.params (s.completeFp_eq err) :)
@[simp] theorem State.completeFp_draws (err : Bool) : (s.completeFp err).draws = s.draws := (congrArg State.draws (s.completeFp_eq err) :)
@[simp] theorem State.completeFp_A (err : Bool) (m : Reg) : (s.completeFp err).A m = s.A m := (congrArg (fun t => State.A t m) (s.completeFp_eq err) :)
@[simp] theorem State.completeFp_S (err : Bool) (m : Reg) : (s.completeFp err).S m = s.S m := (congrArg (fun t => State.S t m) (s.completeFp_eq err) :)
@[simp] theorem State.completeFp_V (err : Bool) (m : Reg) (x : Elem) : (s.completeFp err).V m x = s.V m x := (congrArg (fun t => State.V t m x) (s.completeFp_eq err) :)

@[simp] theorem State.noteReads_p (i : Reg) (addr : Elem → Addr) (t : State) : (s.noteReads i addr t).p = t.p := (congrArg State.p (s.noteReads_eq i addr t) :)
@[simp] theorem State.noteReads_ba (i : Reg) (addr : Elem → Addr) (t : State) : (s.noteReads i addr t).ba = t.ba := (congrArg State.ba (s.noteReads_eq i addr t) :)
@[simp] theorem State.noteReads_la (i : Reg) (addr : Elem → Addr) (t : State) : (s.noteReads i addr t).la = t.la := (congrArg State.la (s.noteReads_eq i addr t) :)
@[simp] theorem State.noteReads_areg (i : Reg) (addr : Elem → Addr) (t : State) : (s.noteReads i addr t).areg = t.areg := (congrArg State.areg (s.noteReads_eq i addr t) :)
@[simp] theorem State.noteReads_sreg (i : Reg) (addr : Elem → Addr) (t : State) : (s.noteReads i addr t).sreg = t.sreg := (congrArg State.sreg (s.noteReads_eq i addr t) :)
@[simp] theorem State.noteReads_vreg (i : Reg) (addr : Elem → Addr) (t : State) : (s.noteReads i addr t).vreg = t.vreg := (congrArg State.vreg (s.noteReads_eq i addr t) :)
@[simp] theorem State.noteReads_vl (i : Reg) (addr : Elem → Addr) (t : State) : (s.noteReads i addr t).vl = t.vl := (congrArg State.vl (s.noteReads_eq i addr t) :)
@[simp] theorem State.noteReads_vm (i : Reg) (addr : Elem → Addr) (t : State) : (s.noteReads i addr t).vm = t.vm := (congrArg State.vm (s.noteReads_eq i addr t) :)
@[simp] theorem State.noteReads_rtc (i : Reg) (addr : Elem → Addr) (t : State) : (s.noteReads i addr t).rtc = t.rtc := (congrArg State.rtc (s.noteReads_eq i addr t) :)
@[simp] theorem State.noteReads_bps (i : Reg) (addr : Elem → Addr) (t : State) : (s.noteReads i addr t).bps = t.bps := (congrArg State.bps (s.noteReads_eq i addr t) :)
@[simp] theorem State.noteReads_run (i : Reg) (addr : Elem → Addr) (t : State) : (s.noteReads i addr t).run = t.run := (congrArg State.run (s.noteReads_eq i addr t) :)
@[simp] theorem State.noteReads_ended (i : Reg) (addr : Elem → Addr) (t : State) : (s.noteReads i addr t).ended = t.ended := (congrArg State.ended (s.noteReads_eq i addr t) :)
@[simp] theorem State.noteReads_lm (i : Reg) (addr : Elem → Addr) (t : State) : (s.noteReads i addr t).lm = t.lm := (congrArg State.lm (s.noteReads_eq i addr t) :)
@[simp] theorem State.noteReads_cm (i : Reg) (addr : Elem → Addr) (t : State) : (s.noteReads i addr t).cm = t.cm := (congrArg State.cm (s.noteReads_eq i addr t) :)
@[simp] theorem State.noteReads_dirty (i : Reg) (addr : Elem → Addr) (t : State) : (s.noteReads i addr t).dirty = t.dirty := (congrArg State.dirty (s.noteReads_eq i addr t) :)
@[simp] theorem State.noteReads_sem (i : Reg) (addr : Elem → Addr) (t : State) : (s.noteReads i addr t).sem = t.sem := (congrArg State.sem (s.noteReads_eq i addr t) :)
@[simp] theorem State.noteReads_sr (i : Reg) (addr : Elem → Addr) (t : State) : (s.noteReads i addr t).sr = t.sr := (congrArg State.sr (s.noteReads_eq i addr t) :)
@[simp] theorem State.noteReads_params (i : Reg) (addr : Elem → Addr) (t : State) : (s.noteReads i addr t).params = t.params := (congrArg State.params (s.noteReads_eq i addr t) :)
@[simp] theorem State.noteReads_draws (i : Reg) (addr : Elem → Addr) (t : State) : (s.noteReads i addr t).draws = t.draws := (congrArg State.draws (s.noteReads_eq i addr t) :)
@[simp] theorem State.noteReads_A (i : Reg) (addr : Elem → Addr) (t : State) (m : Reg) : (s.noteReads i addr t).A m = t.A m := (congrArg (fun t => State.A t m) (s.noteReads_eq i addr t) :)
@[simp] theorem State.noteReads_S (i : Reg) (addr : Elem → Addr) (t : State) (m : Reg) : (s.noteReads i addr t).S m = t.S m := (congrArg (fun t => State.S t m) (s.noteReads_eq i addr t) :)
@[simp] theorem State.noteReads_V (i : Reg) (addr : Elem → Addr) (t : State) (m : Reg) (x : Elem) : (s.noteReads i addr t).V m x = t.V m x := (congrArg (fun t => State.V t m x) (s.noteReads_eq i addr t) :)
@[simp] theorem State.overtake_p (draw e a : Nat) (v : Word) (k : Nat) (rs : List PendingRead) : (State.overtake draw e a v k rs s).p = s.p := (congrArg State.p (State.overtake_eq draw e a v k rs s) :)
@[simp] theorem State.overtake_ba (draw e a : Nat) (v : Word) (k : Nat) (rs : List PendingRead) : (State.overtake draw e a v k rs s).ba = s.ba := (congrArg State.ba (State.overtake_eq draw e a v k rs s) :)
@[simp] theorem State.overtake_la (draw e a : Nat) (v : Word) (k : Nat) (rs : List PendingRead) : (State.overtake draw e a v k rs s).la = s.la := (congrArg State.la (State.overtake_eq draw e a v k rs s) :)
@[simp] theorem State.overtake_areg (draw e a : Nat) (v : Word) (k : Nat) (rs : List PendingRead) : (State.overtake draw e a v k rs s).areg = s.areg := (congrArg State.areg (State.overtake_eq draw e a v k rs s) :)
@[simp] theorem State.overtake_vl (draw e a : Nat) (v : Word) (k : Nat) (rs : List PendingRead) : (State.overtake draw e a v k rs s).vl = s.vl := (congrArg State.vl (State.overtake_eq draw e a v k rs s) :)
@[simp] theorem State.overtake_vm (draw e a : Nat) (v : Word) (k : Nat) (rs : List PendingRead) : (State.overtake draw e a v k rs s).vm = s.vm := (congrArg State.vm (State.overtake_eq draw e a v k rs s) :)
@[simp] theorem State.overtake_rtc (draw e a : Nat) (v : Word) (k : Nat) (rs : List PendingRead) : (State.overtake draw e a v k rs s).rtc = s.rtc := (congrArg State.rtc (State.overtake_eq draw e a v k rs s) :)
@[simp] theorem State.overtake_bps (draw e a : Nat) (v : Word) (k : Nat) (rs : List PendingRead) : (State.overtake draw e a v k rs s).bps = s.bps := (congrArg State.bps (State.overtake_eq draw e a v k rs s) :)
@[simp] theorem State.overtake_run (draw e a : Nat) (v : Word) (k : Nat) (rs : List PendingRead) : (State.overtake draw e a v k rs s).run = s.run := (congrArg State.run (State.overtake_eq draw e a v k rs s) :)
@[simp] theorem State.overtake_ended (draw e a : Nat) (v : Word) (k : Nat) (rs : List PendingRead) : (State.overtake draw e a v k rs s).ended = s.ended := (congrArg State.ended (State.overtake_eq draw e a v k rs s) :)
@[simp] theorem State.overtake_lm (draw e a : Nat) (v : Word) (k : Nat) (rs : List PendingRead) : (State.overtake draw e a v k rs s).lm = s.lm := (congrArg State.lm (State.overtake_eq draw e a v k rs s) :)
@[simp] theorem State.overtake_cm (draw e a : Nat) (v : Word) (k : Nat) (rs : List PendingRead) : (State.overtake draw e a v k rs s).cm = s.cm := (congrArg State.cm (State.overtake_eq draw e a v k rs s) :)
@[simp] theorem State.overtake_port (draw e a : Nat) (v : Word) (k : Nat) (rs : List PendingRead) : (State.overtake draw e a v k rs s).port = s.port := (congrArg State.port (State.overtake_eq draw e a v k rs s) :)
@[simp] theorem State.overtake_dirty (draw e a : Nat) (v : Word) (k : Nat) (rs : List PendingRead) : (State.overtake draw e a v k rs s).dirty = s.dirty := (congrArg State.dirty (State.overtake_eq draw e a v k rs s) :)
@[simp] theorem State.overtake_sem (draw e a : Nat) (v : Word) (k : Nat) (rs : List PendingRead) : (State.overtake draw e a v k rs s).sem = s.sem := (congrArg State.sem (State.overtake_eq draw e a v k rs s) :)
@[simp] theorem State.overtake_sr (draw e a : Nat) (v : Word) (k : Nat) (rs : List PendingRead) : (State.overtake draw e a v k rs s).sr = s.sr := (congrArg State.sr (State.overtake_eq draw e a v k rs s) :)
@[simp] theorem State.overtake_params (draw e a : Nat) (v : Word) (k : Nat) (rs : List PendingRead) : (State.overtake draw e a v k rs s).params = s.params := (congrArg State.params (State.overtake_eq draw e a v k rs s) :)
@[simp] theorem State.overtake_draws (draw e a : Nat) (v : Word) (k : Nat) (rs : List PendingRead) : (State.overtake draw e a v k rs s).draws = s.draws := (congrArg State.draws (State.overtake_eq draw e a v k rs s) :)

@[simp] theorem State.storeWord_port (e a : Nat) (v : Word) :
    (s.storeWord e a v).port = { writes := s.port.writes ++ [{ addr := a, value := v }], reads := s.port.reads } :=
  (congrArg State.port (s.storeWord_eq e a v) :)

@[simp] theorem State.storeWord_dirty (e a : Nat) (v : Word) : (s.storeWord e a v).dirty = s.dirty.insert a :=
  (congrArg State.dirty (s.storeWord_eq e a v) :)

@[simp] theorem State.storeElems_port (addr : Elem → Addr) (data : Elem → Word) :
    (s.storeElems addr data).port =
      { writes := s.port.writes ++ (s.elements.filter (fun e => s.inField (s.cmAbs (addr e)))).map
          (fun e => { addr := (s.cmAbs (addr e)).toNat, value := data e })
        reads := s.port.reads } :=
  (congrArg State.port (s.storeElems_eq addr data) :)

/-! ## Reads and waiting writes -/

theorem pickFrom_mem (n : Nat) (d w : Word) (ws : List Word) : pickFrom n d (w :: ws) ∈ w :: ws := by
  cases ws with
  | nil => simp [pickFrom]
  | cons x xs =>
    have h : n % (xs.length + 1 + 1) < (w :: x :: xs).length := Nat.mod_lt _ (by simp)
    simp only [pickFrom, List.length_cons]
    rw [List.getD_eq_getElem (hn := h)]
    exact List.getElem_mem h

/-- A load gets the word in memory or a value waiting for it (R71). -/
theorem State.cmLoad_mayLoad (e a : Nat) : MayLoad s a (s.cmLoad e a) := by
  have h := pickFrom_mem (Config.loadOrder s.draws e) (s.cm.read a) (s.cm.read a) (s.waiting a)
  rcases List.mem_cons.1 h with h | h
  · exact .inl h
  · exact .inr h

/-- Where nothing waits, a load gets the word in memory. -/
theorem State.cmLoad_quiet {s : State} {a : Nat} (e : Nat) (h : s.waiting a = []) : s.cmLoad e a = s.cm.read a := by
  rw [State.cmLoad, h, pickFrom]

theorem State.mem_waiting {s : State} {a : Nat} {v : Word} :
    v ∈ s.waiting a ↔ ∃ w ∈ s.port.writes, w.addr = a ∧ w.value = v := by
  simp [State.waiting, and_assoc]

theorem State.waiting_empty (h : s.port.writes = []) (a : Nat) : s.waiting a = [] := by
  simp [State.waiting, h]

/-- Completing the waiting writes leaves at an address a value that waited for it, or what was there if none did (R70, R71). -/
theorem State.landed_read (a : Nat) :
    if s.waiting a = [] then s.landed.read a = s.cm.read a else s.landed.read a ∈ s.waiting a := by
  split
  · rename_i h
    refine Memory.read_foldl_write_other s.port.writes (·.addr) _ s.cm (fun w hw ha => ?_)
    have : w.value ∈ s.waiting a := State.mem_waiting.2 ⟨w, hw, ha, rfl⟩
    rw [h] at this
    simp at this
  · rename_i h
    have pick : ∀ w ∈ s.port.writes,
        pickFrom (Config.storeOrder s.draws w.addr) w.value (s.waiting w.addr) ∈ s.waiting w.addr := by
      intro w hw
      have hv : w.value ∈ s.waiting w.addr := State.mem_waiting.2 ⟨w, hw, rfl, rfl⟩
      cases hl : s.waiting w.addr with
      | nil => rw [hl] at hv; simp at hv
      | cons x xs => exact pickFrom_mem _ _ _ _
    have main : ∀ (l : List PendingWrite) (m : Memory), (∀ w ∈ l, w ∈ s.port.writes) →
        ((∃ w ∈ l, w.addr = a) ∨ m.read a ∈ s.waiting a) →
        (l.foldl (fun m w => m.write w.addr (pickFrom (Config.storeOrder s.draws w.addr) w.value (s.waiting w.addr))) m).read a
          ∈ s.waiting a := by
      intro l
      induction l with
      | nil => intro m _ hm; simpa using hm
      | cons w l ih =>
        intro m hl hm
        refine ih _ (fun x hx => hl x (List.mem_cons_of_mem _ hx)) ?_
        rw [Memory.read_write]
        by_cases ha : w.addr = a
        · right
          rw [if_pos ha]
          have := pick w (hl w (by simp))
          rwa [ha] at this ⊢
        · rw [if_neg ha]
          rcases hm with ⟨x, hx, hxa⟩ | hm
          · rcases List.mem_cons.1 hx with rfl | hx
            · exact absurd hxa ha
            · exact .inl ⟨x, hx, hxa⟩
          · exact .inr hm
    refine main s.port.writes s.cm (fun _ h => h) (.inl ?_)
    cases hw : s.waiting a with
    | nil => exact absurd hw h
    | cons v vs =>
      obtain ⟨w, hw', ha, -⟩ := State.mem_waiting.1 (show v ∈ s.waiting a by rw [hw]; simp)
      exact ⟨w, hw', ha⟩

/-- The values waiting after one more write has issued. -/
theorem State.storeWord_waiting (e a b : Nat) (v : Word) :
    (s.storeWord e a v).waiting b = if a = b then s.waiting b ++ [v] else s.waiting b := by
  by_cases h : a = b <;> simp [State.waiting, h]

/-! ## Overtaken reads -/

/-- A write of `v` changes an S register only by delivering `v` to an outstanding read of its address (R71 iv). -/
theorem State.overtake_S (draw e a : Nat) (v : Word) (k : Nat) (rs : List PendingRead) (s : State) (n : Reg) :
    (State.overtake draw e a v k rs s).S n = s.S n ∨
      ((State.overtake draw e a v k rs s).S n = v ∧ ∃ r ∈ rs, r.addr = a ∧ r.dest = .s n) := by
  induction rs generalizing k s with
  | nil => exact .inl rfl
  | cons r rs ih =>
    rw [State.overtake]
    split
    · rename_i h
      rcases ih (k + 1) (s.deliver r.dest v) with h1 | ⟨h1, x, hx, hxa⟩
      · rw [h1]
        cases hd : r.dest with
        | s m =>
          by_cases hm : m = n
          · exact .inr ⟨by simp [State.deliver, hm], r, by simp, h.1, by rw [hd, hm]⟩
          · exact .inl (by simp [State.deliver, hm])
        | v m d => exact .inl (by simp [State.deliver])
      · exact .inr ⟨h1, x, List.mem_cons_of_mem _ hx, hxa⟩
    · rcases ih (k + 1) s with h1 | ⟨h1, x, hx, hxa⟩
      · exact .inl h1
      · exact .inr ⟨h1, x, List.mem_cons_of_mem _ hx, hxa⟩

/-- The same for an element of a V register. -/
theorem State.overtake_V (draw e a : Nat) (v : Word) (k : Nat) (rs : List PendingRead) (s : State) (n : Reg) (d : Elem) :
    (State.overtake draw e a v k rs s).V n d = s.V n d ∨
      ((State.overtake draw e a v k rs s).V n d = v ∧ ∃ r ∈ rs, r.addr = a ∧ r.dest = .v n d) := by
  induction rs generalizing k s with
  | nil => exact .inl rfl
  | cons r rs ih =>
    rw [State.overtake]
    split
    · rename_i h
      rcases ih (k + 1) (s.deliver r.dest v) with h1 | ⟨h1, x, hx, hxa⟩
      · rw [h1]
        cases hd : r.dest with
        | s m => exact .inl (by simp [State.deliver])
        | v m x =>
          by_cases hm : m = n ∧ x = d
          · exact .inr ⟨by simp [State.deliver, hm], r, by simp, h.1, by rw [hd, hm.1, hm.2]⟩
          · exact .inl (by simp [State.deliver, hm])
      · exact .inr ⟨h1, x, List.mem_cons_of_mem _ hx, hxa⟩
    · rcases ih (k + 1) s with h1 | ⟨h1, x, hx, hxa⟩
      · exact .inl h1
      · exact .inr ⟨h1, x, List.mem_cons_of_mem _ hx, hxa⟩

/-- The writes of a vector store change an S register only by delivering to an outstanding read the element stored to its address (R71 iv, R234). -/
theorem State.storeElems_S (addr : Elem → Addr) (data : Elem → Word) (n : Reg) :
    (s.storeElems addr data).S n = s.S n ∨ ∃ e ∈ s.elements, s.inField (s.cmAbs (addr e)) = true ∧
      { addr := (s.cmAbs (addr e)).toNat, dest := .s n } ∈ s.port.reads ∧ (s.storeElems addr data).S n = data e := by
  unfold State.storeElems
  have step : ∀ (l : List Elem) (t : State), t.port.reads = s.port.reads →
      (l.foldl (fun t e => if s.inField (s.cmAbs (addr e)) then t.storeWord e.val (s.cmAbs (addr e)).toNat (data e) else t) t).S n =
        t.S n ∨ ∃ e ∈ l, s.inField (s.cmAbs (addr e)) = true ∧
        { addr := (s.cmAbs (addr e)).toNat, dest := .s n } ∈ s.port.reads ∧
        (l.foldl (fun t e => if s.inField (s.cmAbs (addr e)) then t.storeWord e.val (s.cmAbs (addr e)).toNat (data e) else t) t).S n =
          data e := by
    intro l
    induction l with
    | nil => exact fun t _ => .inl rfl
    | cons e l ih =>
      intro t ht
      rw [List.foldl_cons]
      by_cases hc : s.inField (s.cmAbs (addr e)) = true
      · rw [if_pos hc]
        rcases ih (t.storeWord e.val (s.cmAbs (addr e)).toNat (data e)) (by simp [ht]) with h | ⟨x, hx, h⟩
        · rw [h]
          rcases State.overtake_S t.draws e.val (s.cmAbs (addr e)).toNat (data e) 0 t.port.reads t n with
            h' | ⟨h', ⟨ra, rd⟩, hr, rfl, rfl⟩
          · exact .inl h'
          · exact .inr ⟨e, by simp, hc, ht ▸ hr, h'⟩
        · exact .inr ⟨x, by simp [hx], h⟩
      · rw [if_neg hc]
        rcases ih t ht with h | ⟨x, hx, h⟩
        · exact .inl h
        · exact .inr ⟨x, by simp [hx], h⟩
  exact step s.elements s rfl

/-- The same for an element of a V register. -/
theorem State.storeElems_V (addr : Elem → Addr) (data : Elem → Word) (n : Reg) (d : Elem) :
    (s.storeElems addr data).V n d = s.V n d ∨ ∃ e ∈ s.elements, s.inField (s.cmAbs (addr e)) = true ∧
      { addr := (s.cmAbs (addr e)).toNat, dest := .v n d } ∈ s.port.reads ∧
      (s.storeElems addr data).V n d = data e := by
  unfold State.storeElems
  have step : ∀ (l : List Elem) (t : State), t.port.reads = s.port.reads →
      (l.foldl (fun t e => if s.inField (s.cmAbs (addr e)) then t.storeWord e.val (s.cmAbs (addr e)).toNat (data e) else t) t).V n d =
        t.V n d ∨ ∃ e ∈ l, s.inField (s.cmAbs (addr e)) = true ∧
        { addr := (s.cmAbs (addr e)).toNat, dest := .v n d } ∈ s.port.reads ∧
        (l.foldl (fun t e => if s.inField (s.cmAbs (addr e)) then t.storeWord e.val (s.cmAbs (addr e)).toNat (data e) else t) t).V n d =
          data e := by
    intro l
    induction l with
    | nil => exact fun t _ => .inl rfl
    | cons e l ih =>
      intro t ht
      rw [List.foldl_cons]
      by_cases hc : s.inField (s.cmAbs (addr e)) = true
      · rw [if_pos hc]
        rcases ih (t.storeWord e.val (s.cmAbs (addr e)).toNat (data e)) (by simp [ht]) with h | ⟨x, hx, h⟩
        · rw [h]
          rcases State.overtake_V t.draws e.val (s.cmAbs (addr e)).toNat (data e) 0 t.port.reads t n d with
            h' | ⟨h', ⟨ra, rd⟩, hr, rfl, rfl⟩
          · exact .inl h'
          · exact .inr ⟨e, by simp, hc, ht ▸ hr, h'⟩
        · exact .inr ⟨x, by simp [hx], h⟩
      · rw [if_neg hc]
        rcases ih t ht with h | ⟨x, hx, h⟩
        · exact .inl h
        · exact .inr ⟨x, by simp [hx], h⟩
  exact step s.elements s rfl

/-! ## The words stored to, and the reads outstanding -/

/-- The words stored to after the writes of a vector store (R77; log 22). -/
theorem State.mem_storeElems_dirty (addr : Elem → Addr) (data : Elem → Word) (b : Nat) :
    b ∈ (s.storeElems addr data).dirty ↔ b ∈ s.dirty ∨
      ∃ e ∈ s.elements, s.inField (s.cmAbs (addr e)) = true ∧ b = (s.cmAbs (addr e)).toNat := by
  unfold State.storeElems
  have step : ∀ (l : List Elem) (t : State),
      (b ∈ (l.foldl (fun t e => if s.inField (s.cmAbs (addr e)) then t.storeWord e.val (s.cmAbs (addr e)).toNat (data e) else t) t).dirty ↔
        b ∈ t.dirty ∨ ∃ e ∈ l, s.inField (s.cmAbs (addr e)) = true ∧ b = (s.cmAbs (addr e)).toNat) := by
    intro l
    induction l with
    | nil => simp
    | cons e l ih =>
      intro t
      rw [List.foldl_cons, ih]
      by_cases hc : s.inField (s.cmAbs (addr e)) = true
      · rw [if_pos hc, State.storeWord_dirty, List.mem_insert_iff]
        simp only [List.mem_cons, exists_eq_or_imp, hc, true_and]
        tauto
      · rw [if_neg hc]
        simp only [List.mem_cons, exists_eq_or_imp, hc]
        simp
  exact step s.elements s

/-- The reads outstanding after one more read (R71; log 17). -/
theorem State.noteRead_reads (a : Nat) (d : LoadDest) :
    (s.noteRead a d).port.reads = ReadsAfter s [{ addr := a, dest := d }] := by
  unfold State.noteRead ReadsAfter
  split <;> simp_all

/-- A read changes no waiting write. -/
theorem State.noteRead_writes (a : Nat) (d : LoadDest) : (s.noteRead a d).port.writes = s.port.writes := by
  unfold State.noteRead
  split <;> rfl

/-- The reads outstanding after the reads of a vector load, and the waiting writes (R71, R234; log 17). -/
theorem State.noteReads_port (i : Reg) (addr : Elem → Addr) (t : State) :
    (s.noteReads i addr t).port.writes = t.port.writes ∧
      (s.noteReads i addr t).port.reads = ReadsAfter t ((s.elements.filter (fun e => s.inField (s.cmAbs (addr e)))).map
        (fun e => { addr := (s.cmAbs (addr e)).toNat, dest := .v i e })) := by
  unfold State.noteReads
  generalize s.elements = l
  induction l generalizing t with
  | nil => exact ⟨rfl, by unfold ReadsAfter; split <;> simp⟩
  | cons e l ih =>
    rw [List.foldl_cons]
    by_cases hc : s.inField (s.cmAbs (addr e)) = true
    · rw [if_pos hc]
      obtain ⟨h1, h2⟩ := ih (t.noteRead (s.cmAbs (addr e)).toNat (.v i e))
      refine ⟨h1.trans (t.noteRead_writes _ _), ?_⟩
      rw [h2, List.filter_cons_of_pos (by simpa using hc)]
      unfold ReadsAfter
      rw [State.noteRead_params, t.noteRead_reads]
      unfold ReadsAfter
      split <;> simp
    · rw [if_neg hc, List.filter_cons_of_neg (by simpa using hc)]
      exact ih t

/-! ## Stopping and completing -/

/-- A stop leaves the processor idle with its outcome (R343, R344, R349). -/
theorem State.stop_stopped (why : RunEnd) (len : Nat) : Stopped why len s (s.stop why len) := by
  refine ⟨rfl, rfl, rfl, rfl, ?_⟩
  rw [State.stop_p]
  split
  · exact .inr rfl
  · exact .inl rfl

/-- A stop completes the waiting writes. -/
theorem State.stop_landed (why : RunEnd) (len : Nat) : Landed s (s.stop why len) := fun a => s.landed_read a

/-- The three ends of an instruction that references Common Memory (R343). -/
theorem State.completeRef_cases (err : Bool) (len : Nat) :
    (err = false ∧ s.completeRef err len = s.advance len) ∨
      (err = true ∧ s.bps.rangeHaltEnable = false ∧ s.completeRef err len = s.signalRange.advance len) ∨
      (err = true ∧ s.bps.rangeHaltEnable = true ∧ s.completeRef err len = s.signalRange.stop .haltedRange len) := by
  cases err
  · exact .inl ⟨rfl, rfl⟩
  · by_cases h : s.bps.rangeHaltEnable = true
    · exact .inr (.inr ⟨rfl, h, by simp [State.completeRef, h]⟩)
    · exact .inr (.inl ⟨rfl, by simpa using h, by simp [State.completeRef, h]⟩)

/-- The two ends of a floating-point instruction (R344). -/
theorem State.completeFp_cases (err : Bool) :
    ((err = false ∨ s.bps.fpEnable = false) ∧ s.completeFp err = s.advance 1) ∨
      (err = true ∧ s.bps.fpEnable = true ∧
        s.completeFp err = (s.setBps { s.bps with fpError := true }).stop .haltedFp 1) := by
  cases err
  · exact .inl ⟨.inl rfl, rfl⟩
  · by_cases h : s.bps.fpEnable = true
    · exact .inr ⟨rfl, h, by simp [State.completeFp, h]⟩
    · exact .inl ⟨.inr (by simpa using h), by simp [State.completeFp, h]⟩

/-! ## The shapes of meanings: if they answer a next state, then … -/

/-- A Local Memory reference that answers a next state has a place below 16384 (R66). -/
theorem withLm_next {a : Addr} {s t : State} {k : Nat → State} (h : withLm a s k = .next t) :
    ∃ n, s.lmSlot a = some n ∧ n < 16384 ∧ t = k n := by
  unfold withLm at h
  split at h
  · simp at h
  · rename_i n hn
    exact ⟨n, hn, State.lmSlot_lt hn, by simpa using h.symm⟩

/-- A Common Memory read that answers a next state: in range and installed, or zero with a range error (R63). -/
theorem loadWord_next {i : Reg} {r : Addr} {len : Nat} {s t : State} (h : loadWord i r len s = .next t) :
    (s.inField (s.cmAbs r) = true ∧ (s.cmAbs r).toNat < s.params.cmWords ∧
        t = ((s.setS i (s.cmLoad 0 (s.cmAbs r).toNat)).noteRead (s.cmAbs r).toNat (.s i)).advance len) ∨
      (s.inField (s.cmAbs r) = false ∧ t = (s.setS i 0).completeRef true len) := by
  unfold loadWord at h
  by_cases hm : s.missing (s.cmAbs r) = true
  · simp [hm] at h
  · by_cases hf : s.inField (s.cmAbs r) = true
    · refine .inl ⟨hf, ?_, by simpa [hm, hf] using h.symm⟩
      simpa [State.missing, hf] using hm
    · exact .inr ⟨by simpa using hf, by simpa [hm, hf] using h.symm⟩

/-- A Common Memory write that answers a next state: in range and installed, or dropped with a range error (R63). -/
theorem writeWord_next {r : Addr} {v : Word} {len : Nat} {s t : State} (h : writeWord r v len s = .next t) :
    (s.inField (s.cmAbs r) = true ∧ (s.cmAbs r).toNat < s.params.cmWords ∧
        t = (s.storeWord 0 (s.cmAbs r).toNat v).settle.advance len) ∨
      (s.inField (s.cmAbs r) = false ∧ t = s.completeRef true len) := by
  unfold writeWord at h
  by_cases hm : s.missing (s.cmAbs r) = true
  · simp [hm] at h
  · by_cases hf : s.inField (s.cmAbs r) = true
    · refine .inl ⟨hf, ?_, by simpa [hm, hf] using h.symm⟩
      simpa [State.missing, hf] using hm
    · exact .inr ⟨by simpa using hf, by simpa [hm, hf] using h.symm⟩

/-- Where no element reference lacks storage, every one in the field is in installed memory. -/
theorem State.someMissing_false {s : State} {addr : Elem → Addr} (h : s.someMissing addr = false) {e : Elem}
    (he : e ∈ s.elements) (hf : s.inField (s.cmAbs (addr e)) = true) : (s.cmAbs (addr e)).toNat < s.params.cmWords := by
  simp only [State.someMissing, List.any_eq_false] at h
  simpa [State.missing, hf] using h e he

/-- A vector read that answers a next state (R234). -/
theorem loadElems_next {i : Reg} {addr : Elem → Addr} {s t : State} (h : loadElems i addr s = .next t) :
    s.someMissing addr = false ∧
      t = (s.noteReads i addr (s.writeElems i s.vlen (s.elemLoad addr))).completeRef (s.someOut addr) 1 := by
  unfold loadElems at h
  by_cases hm : s.someMissing addr = true
  · simp [hm] at h
  · exact ⟨by simpa using hm, by simpa [hm] using h.symm⟩

/-- A vector write that answers a next state (R234). -/
theorem writeElemsCm_next {addr : Elem → Addr} {data : Elem → Word} {s t : State}
    (h : writeElemsCm addr data s = .next t) :
    s.someMissing addr = false ∧ t = (s.storeElems addr data).settle.completeRef (s.someOut addr) 1 := by
  unfold writeElemsCm at h
  by_cases hm : s.someMissing addr = true
  · simp [hm] at h
  · exact ⟨by simpa using hm, by simpa [hm] using h.symm⟩

/-- The overlap guard stops nothing unless the destination is a source and `V_SRC_EQ_DST` is `refuse` (R291). -/
theorem guardOverlap_next {overlap : Bool} {s t : State} {r : Result} (h : guardOverlap overlap s r = .next t) :
    r = .next t := by
  unfold guardOverlap at h
  split at h
  · simp at h
  · exact h

theorem guardOverlap_of_ne {s : State} (overlap : Bool) (r : Result) (h : s.params.vSrcEqDst ≠ .refuse) :
    guardOverlap overlap s r = r := by
  simp [guardOverlap, h]

theorem guardOverlap_false (s : State) (r : Result) : guardOverlap false s r = r := by
  simp [guardOverlap]

/-- A stream of a register that is not the destination supplies its elements (R129). -/
theorem State.stream_of_ne {s : State} {i n : Reg} (h : n ≠ i) (e : Elem) : s.stream i n e = s.V n e := by
  simp [State.stream, h]

/-- The number of elements is 1 to 64 (R37). -/
theorem State.vlen_bounds : 1 ≤ s.vlen ∧ s.vlen ≤ 64 := by
  unfold State.vlen
  split
  · omega
  · rename_i h
    have : s.vl.toNat ≠ 0 := fun h' => h (BitVec.eq_of_toNat_eq (by simpa using h'))
    have := s.vl.isLt
    omega

theorem State.mem_elements {s : State} {e : Elem} : e ∈ s.elements ↔ e.val < s.vlen := by
  simp [State.elements]

end Sys2Proof.Machine
end

