-- ==== Sys2Proof/Laws/Params.lean ====
section
/-! SUPPORT. What the table of R7 says of the parameters. -/

namespace Sys2Proof

/-- `CM_WORDS` is 64, 128, 256 or 512 Mwords. -/
theorem Params.cmWords_values (q : Params) :
    q.cmWords = 2 ^ 26 ∨ q.cmWords = 2 ^ 27 ∨ q.cmWords = 2 ^ 28 ∨ q.cmWords = 2 ^ 29 := by
  unfold Params.cmWords; cases q.model <;> simp [Model.row]

/-- Installed memory is a small part of the 32-bit address space. -/
theorem Params.cmWords_le (q : Params) : q.cmWords ≤ 2 ^ 29 := by
  rcases q.cmWords_values with h | h | h | h <;> omega

/-- A machine with Shared registers has tailgating. -/
theorem Params.hasTailgating_of_hasSharedRegs (q : Params) (h : q.hasSharedRegs = true) : q.hasTailgating = true := by
  unfold Params.hasSharedRegs at h; unfold Params.hasTailgating; cases hq : q.serial <;> simp_all

end Sys2Proof
end

