-- ==== Sys2Proof/Laws/PerInstr.lean ====
section
/-! SUPPORT. Per instruction: an encoding is as long as R94 says its code is. -/

/-- The number of parcels the encoder writes is the length that f alone gives (R94). -/
def Sys2Proof.Laws.EncodingLength.Statement (i : Sys2Proof.Instr) : Prop :=
  (Sys2Proof.encode i).length = Sys2Proof.parcelCount (Sys2Proof.fieldF ((Sys2Proof.encode i).headD 0))

namespace Sys2Proof

/-- The length of an encoding whose first parcel has three designators. -/
theorem Laws.encodingLength_parcelOf {n : Nat} (f : BitVec 7) (i j k : Reg) (h : n = parcelCount f) :
    n = parcelCount (fieldF (parcelOf f i j k)) := by rw [fieldF_parcelOf, h]

/-- The length of an encoding whose first parcel has the field jk. -/
theorem Laws.encodingLength_parcelJk {n : Nat} (f : BitVec 7) (i : Reg) (jk : BitVec 6) (h : n = parcelCount f) :
    n = parcelCount (fieldF (parcelJk f i jk)) := by rw [fieldF_parcelJk, h]

theorem Laws.EncodingLength.exitExp (jk : BitVec 6) : Laws.EncodingLength.Statement (.exitExp jk) := Laws.encodingLength_parcelJk _ _ _ rfl

theorem Laws.EncodingLength.err : Laws.EncodingLength.Statement .err := Laws.encodingLength_parcelJk _ _ _ rfl

theorem Laws.EncodingLength.exit : Laws.EncodingLength.Statement .exit := Laws.encodingLength_parcelJk _ _ _ rfl

theorem Laws.EncodingLength.cmr : Laws.EncodingLength.Statement .cmr := Laws.encodingLength_parcelOf _ _ _ _ rfl

theorem Laws.EncodingLength.jumpLink (i : Reg) (k : Reg) : Laws.EncodingLength.Statement (.jumpLink i k) := Laws.encodingLength_parcelOf _ _ _ _ rfl

theorem Laws.EncodingLength.jumpReg (k : Reg) : Laws.EncodingLength.Statement (.jumpReg k) := Laws.encodingLength_parcelOf _ _ _ _ rfl

theorem Laws.EncodingLength.jump (c : BitVec 32) : Laws.EncodingLength.Statement (.jump c) := Laws.encodingLength_parcelOf _ _ _ _ rfl

theorem Laws.EncodingLength.jcs (c : BitVec 32) : Laws.EncodingLength.Statement (.jcs c) := Laws.encodingLength_parcelOf _ _ _ _ rfl

theorem Laws.EncodingLength.jss (c : BitVec 32) : Laws.EncodingLength.Statement (.jss c) := Laws.encodingLength_parcelOf _ _ _ _ rfl

theorem Laws.EncodingLength.ssm : Laws.EncodingLength.Statement .ssm := Laws.encodingLength_parcelOf _ _ _ _ rfl

theorem Laws.EncodingLength.csm : Laws.EncodingLength.Statement .csm := Laws.encodingLength_parcelOf _ _ _ _ rfl

theorem Laws.EncodingLength.jzA (k : Reg) (c : BitVec 32) : Laws.EncodingLength.Statement (.jzA k c) := Laws.encodingLength_parcelOf _ _ _ _ rfl

theorem Laws.EncodingLength.jnA (k : Reg) (c : BitVec 32) : Laws.EncodingLength.Statement (.jnA k c) := Laws.encodingLength_parcelOf _ _ _ _ rfl

theorem Laws.EncodingLength.jpA (k : Reg) (c : BitVec 32) : Laws.EncodingLength.Statement (.jpA k c) := Laws.encodingLength_parcelOf _ _ _ _ rfl

theorem Laws.EncodingLength.jmA (k : Reg) (c : BitVec 32) : Laws.EncodingLength.Statement (.jmA k c) := Laws.encodingLength_parcelOf _ _ _ _ rfl

theorem Laws.EncodingLength.jzS (j : Reg) (c : BitVec 32) : Laws.EncodingLength.Statement (.jzS j c) := Laws.encodingLength_parcelOf _ _ _ _ rfl

theorem Laws.EncodingLength.jnS (j : Reg) (c : BitVec 32) : Laws.EncodingLength.Statement (.jnS j c) := Laws.encodingLength_parcelOf _ _ _ _ rfl

theorem Laws.EncodingLength.jpS (j : Reg) (c : BitVec 32) : Laws.EncodingLength.Statement (.jpS j c) := Laws.encodingLength_parcelOf _ _ _ _ rfl

theorem Laws.EncodingLength.jmS (j : Reg) (c : BitVec 32) : Laws.EncodingLength.Statement (.jmS j c) := Laws.encodingLength_parcelOf _ _ _ _ rfl

theorem Laws.EncodingLength.addA (i : Reg) (j : Reg) (k : Reg) : Laws.EncodingLength.Statement (.addA i j k) := Laws.encodingLength_parcelOf _ _ _ _ rfl

theorem Laws.EncodingLength.subA (i : Reg) (j : Reg) (k : Reg) : Laws.EncodingLength.Statement (.subA i j k) := Laws.encodingLength_parcelOf _ _ _ _ rfl

theorem Laws.EncodingLength.mulA (i : Reg) (j : Reg) (k : Reg) : Laws.EncodingLength.Statement (.mulA i j k) := Laws.encodingLength_parcelOf _ _ _ _ rfl

theorem Laws.EncodingLength.mulA023 (i : Reg) (j : Reg) (k : Reg) : Laws.EncodingLength.Statement (.mulA023 i j k) := Laws.encodingLength_parcelOf _ _ _ _ rfl

theorem Laws.EncodingLength.moveSA (i : Reg) (j : Reg) : Laws.EncodingLength.Statement (.moveSA i j) := Laws.encodingLength_parcelOf _ _ _ _ rfl

theorem Laws.EncodingLength.moveVlA (i : Reg) : Laws.EncodingLength.Statement (.moveVlA i) := Laws.encodingLength_parcelOf _ _ _ _ rfl

theorem Laws.EncodingLength.shortA (i : Reg) (jk : BitVec 6) : Laws.EncodingLength.Statement (.shortA i jk) := Laws.encodingLength_parcelJk _ _ _ rfl

theorem Laws.EncodingLength.shortNegA (i : Reg) (jk : BitVec 6) : Laws.EncodingLength.Statement (.shortNegA i jk) := Laws.encodingLength_parcelJk _ _ _ rfl

theorem Laws.EncodingLength.vmZero (k : Reg) : Laws.EncodingLength.Statement (.vmZero k) := Laws.encodingLength_parcelOf _ _ _ _ rfl

theorem Laws.EncodingLength.vmNonzero (k : Reg) : Laws.EncodingLength.Statement (.vmNonzero k) := Laws.encodingLength_parcelOf _ _ _ _ rfl

theorem Laws.EncodingLength.vmPositive (k : Reg) : Laws.EncodingLength.Statement (.vmPositive k) := Laws.encodingLength_parcelOf _ _ _ _ rfl

theorem Laws.EncodingLength.vmNegative (k : Reg) : Laws.EncodingLength.Statement (.vmNegative k) := Laws.encodingLength_parcelOf _ _ _ _ rfl

theorem Laws.EncodingLength.moveSVm (j : Reg) : Laws.EncodingLength.Statement (.moveSVm j) := Laws.encodingLength_parcelOf _ _ _ _ rfl

theorem Laws.EncodingLength.dri : Laws.EncodingLength.Statement .dri := Laws.encodingLength_parcelOf _ _ _ _ rfl

theorem Laws.EncodingLength.eri : Laws.EncodingLength.Statement .eri := Laws.encodingLength_parcelOf _ _ _ _ rfl

theorem Laws.EncodingLength.dfi : Laws.EncodingLength.Statement .dfi := Laws.encodingLength_parcelOf _ _ _ _ rfl

theorem Laws.EncodingLength.efi : Laws.EncodingLength.Statement .efi := Laws.encodingLength_parcelOf _ _ _ _ rfl

theorem Laws.EncodingLength.sub035 (n : Fin 4) : Laws.EncodingLength.Statement (.sub035 n) := Laws.encodingLength_parcelOf _ _ _ _ rfl

theorem Laws.EncodingLength.moveAVl (k : Reg) : Laws.EncodingLength.Statement (.moveAVl k) := Laws.encodingLength_parcelOf _ _ _ _ rfl

theorem Laws.EncodingLength.moveAVl037 (k : Reg) : Laws.EncodingLength.Statement (.moveAVl037 k) := Laws.encodingLength_parcelOf _ _ _ _ rfl

theorem Laws.EncodingLength.parcelA (i : Reg) (m : Parcel) : Laws.EncodingLength.Statement (.parcelA i m) := Laws.encodingLength_parcelOf _ _ _ _ rfl

theorem Laws.EncodingLength.parcelNegA (i : Reg) (m : Parcel) : Laws.EncodingLength.Statement (.parcelNegA i m) := Laws.encodingLength_parcelOf _ _ _ _ rfl

theorem Laws.EncodingLength.halfA (i : Reg) (c : BitVec 32) : Laws.EncodingLength.Statement (.halfA i c) := Laws.encodingLength_parcelOf _ _ _ _ rfl

theorem Laws.EncodingLength.halfA043 (i : Reg) (c : BitVec 32) : Laws.EncodingLength.Statement (.halfA043 i c) := Laws.encodingLength_parcelOf _ _ _ _ rfl

theorem Laws.EncodingLength.loadALm (i : Reg) (m : Parcel) : Laws.EncodingLength.Statement (.loadALm i m) := Laws.encodingLength_parcelOf _ _ _ _ rfl

theorem Laws.EncodingLength.storeALm (k : Reg) (m : Parcel) : Laws.EncodingLength.Statement (.storeALm k m) := Laws.encodingLength_parcelOf _ _ _ _ rfl

theorem Laws.EncodingLength.loadALmReg (i : Reg) (k : Reg) : Laws.EncodingLength.Statement (.loadALmReg i k) := Laws.encodingLength_parcelOf _ _ _ _ rfl

theorem Laws.EncodingLength.storeALmReg (j : Reg) (k : Reg) : Laws.EncodingLength.Statement (.storeALmReg j k) := Laws.encodingLength_parcelOf _ _ _ _ rfl

theorem Laws.EncodingLength.halfS (i : Reg) (c : BitVec 32) : Laws.EncodingLength.Statement (.halfS i c) := Laws.encodingLength_parcelOf _ _ _ _ rfl

theorem Laws.EncodingLength.halfNegS (i : Reg) (c : BitVec 32) : Laws.EncodingLength.Statement (.halfNegS i c) := Laws.encodingLength_parcelOf _ _ _ _ rfl

theorem Laws.EncodingLength.leftS (i : Reg) (c : BitVec 32) : Laws.EncodingLength.Statement (.leftS i c) := Laws.encodingLength_parcelOf _ _ _ _ rfl

theorem Laws.EncodingLength.fullS (i : Reg) (d : BitVec 64) : Laws.EncodingLength.Statement (.fullS i d) := Laws.encodingLength_parcelOf _ _ _ _ rfl

theorem Laws.EncodingLength.loadSLm (i : Reg) (m : Parcel) : Laws.EncodingLength.Statement (.loadSLm i m) := Laws.encodingLength_parcelOf _ _ _ _ rfl

theorem Laws.EncodingLength.storeSLm (j : Reg) (m : Parcel) : Laws.EncodingLength.Statement (.storeSLm j m) := Laws.encodingLength_parcelOf _ _ _ _ rfl

theorem Laws.EncodingLength.loadSLmReg (i : Reg) (k : Reg) : Laws.EncodingLength.Statement (.loadSLmReg i k) := Laws.encodingLength_parcelOf _ _ _ _ rfl

theorem Laws.EncodingLength.storeSLmReg (i : Reg) (k : Reg) : Laws.EncodingLength.Statement (.storeSLmReg i k) := Laws.encodingLength_parcelOf _ _ _ _ rfl

theorem Laws.EncodingLength.loadSSum (i : Reg) (j : Reg) (k : Reg) : Laws.EncodingLength.Statement (.loadSSum i j k) := Laws.encodingLength_parcelOf _ _ _ _ rfl

theorem Laws.EncodingLength.storeSSum (i : Reg) (j : Reg) (k : Reg) : Laws.EncodingLength.Statement (.storeSSum i j k) := Laws.encodingLength_parcelOf _ _ _ _ rfl

theorem Laws.EncodingLength.loadSReg (i : Reg) (k : Reg) : Laws.EncodingLength.Statement (.loadSReg i k) := Laws.encodingLength_parcelOf _ _ _ _ rfl

theorem Laws.EncodingLength.storeSReg (i : Reg) (k : Reg) : Laws.EncodingLength.Statement (.storeSReg i k) := Laws.encodingLength_parcelOf _ _ _ _ rfl

theorem Laws.EncodingLength.loadSDisp (i : Reg) (k : Reg) (c : BitVec 32) : Laws.EncodingLength.Statement (.loadSDisp i k c) := Laws.encodingLength_parcelOf _ _ _ _ rfl

theorem Laws.EncodingLength.storeSDisp (i : Reg) (k : Reg) (c : BitVec 32) : Laws.EncodingLength.Statement (.storeSDisp i k c) := Laws.encodingLength_parcelOf _ _ _ _ rfl

theorem Laws.EncodingLength.loadSAbs (i : Reg) (c : BitVec 32) : Laws.EncodingLength.Statement (.loadSAbs i c) := Laws.encodingLength_parcelOf _ _ _ _ rfl

theorem Laws.EncodingLength.storeSAbs (i : Reg) (c : BitVec 32) : Laws.EncodingLength.Statement (.storeSAbs i c) := Laws.encodingLength_parcelOf _ _ _ _ rfl

theorem Laws.EncodingLength.loadVStride (i : Reg) (j : Reg) (k : Reg) : Laws.EncodingLength.Statement (.loadVStride i j k) := Laws.encodingLength_parcelOf _ _ _ _ rfl

theorem Laws.EncodingLength.storeVStride (i : Reg) (j : Reg) (k : Reg) : Laws.EncodingLength.Statement (.storeVStride i j k) := Laws.encodingLength_parcelOf _ _ _ _ rfl

theorem Laws.EncodingLength.gather (i : Reg) (j : Reg) (k : Reg) : Laws.EncodingLength.Statement (.gather i j k) := Laws.encodingLength_parcelOf _ _ _ _ rfl

theorem Laws.EncodingLength.scatter (i : Reg) (j : Reg) (k : Reg) : Laws.EncodingLength.Statement (.scatter i j k) := Laws.encodingLength_parcelOf _ _ _ _ rfl

theorem Laws.EncodingLength.loadVLm (i : Reg) (k : Reg) : Laws.EncodingLength.Statement (.loadVLm i k) := Laws.encodingLength_parcelOf _ _ _ _ rfl

theorem Laws.EncodingLength.storeVLm (i : Reg) (k : Reg) : Laws.EncodingLength.Statement (.storeVLm i k) := Laws.encodingLength_parcelOf _ _ _ _ rfl

theorem Laws.EncodingLength.pass : Laws.EncodingLength.Statement .pass := Laws.encodingLength_parcelOf _ _ _ _ rfl

theorem Laws.EncodingLength.pass077 : Laws.EncodingLength.Statement .pass077 := Laws.encodingLength_parcelOf _ _ _ _ rfl

theorem Laws.EncodingLength.andS (i : Reg) (j : Reg) (k : Reg) : Laws.EncodingLength.Statement (.andS i j k) := Laws.encodingLength_parcelOf _ _ _ _ rfl

theorem Laws.EncodingLength.andNotS (i : Reg) (j : Reg) (k : Reg) : Laws.EncodingLength.Statement (.andNotS i j k) := Laws.encodingLength_parcelOf _ _ _ _ rfl

theorem Laws.EncodingLength.xorS (i : Reg) (j : Reg) (k : Reg) : Laws.EncodingLength.Statement (.xorS i j k) := Laws.encodingLength_parcelOf _ _ _ _ rfl

theorem Laws.EncodingLength.orS (i : Reg) (j : Reg) (k : Reg) : Laws.EncodingLength.Statement (.orS i j k) := Laws.encodingLength_parcelOf _ _ _ _ rfl

theorem Laws.EncodingLength.copyS (i : Reg) (j : Reg) : Laws.EncodingLength.Statement (.copyS i j) := Laws.encodingLength_parcelOf _ _ _ _ rfl

theorem Laws.EncodingLength.addS (i : Reg) (j : Reg) (k : Reg) : Laws.EncodingLength.Statement (.addS i j k) := Laws.encodingLength_parcelOf _ _ _ _ rfl

theorem Laws.EncodingLength.subS (i : Reg) (j : Reg) (k : Reg) : Laws.EncodingLength.Statement (.subS i j k) := Laws.encodingLength_parcelOf _ _ _ _ rfl

theorem Laws.EncodingLength.popS (i : Reg) (j : Reg) : Laws.EncodingLength.Statement (.popS i j) := Laws.encodingLength_parcelOf _ _ _ _ rfl

theorem Laws.EncodingLength.parityS (i : Reg) (j : Reg) : Laws.EncodingLength.Statement (.parityS i j) := Laws.encodingLength_parcelOf _ _ _ _ rfl

theorem Laws.EncodingLength.sub106a (i : Reg) (j : Reg) (n : Fin 2) : Laws.EncodingLength.Statement (.sub106a i j n) := Laws.encodingLength_parcelOf _ _ _ _ rfl

theorem Laws.EncodingLength.sub106b (i : Reg) (j : Reg) (n : Fin 4) : Laws.EncodingLength.Statement (.sub106b i j n) := Laws.encodingLength_parcelOf _ _ _ _ rfl

theorem Laws.EncodingLength.lzS (i : Reg) (j : Reg) : Laws.EncodingLength.Statement (.lzS i j) := Laws.encodingLength_parcelOf _ _ _ _ rfl

theorem Laws.EncodingLength.shlS (i : Reg) (jk : BitVec 6) : Laws.EncodingLength.Statement (.shlS i jk) := Laws.encodingLength_parcelJk _ _ _ rfl

theorem Laws.EncodingLength.shrS (i : Reg) (jk : BitVec 6) : Laws.EncodingLength.Statement (.shrS i jk) := Laws.encodingLength_parcelJk _ _ _ rfl

theorem Laws.EncodingLength.dshlS (i : Reg) (j : Reg) (k : Reg) : Laws.EncodingLength.Statement (.dshlS i j k) := Laws.encodingLength_parcelOf _ _ _ _ rfl

theorem Laws.EncodingLength.dshrS (i : Reg) (j : Reg) (k : Reg) : Laws.EncodingLength.Statement (.dshrS i j k) := Laws.encodingLength_parcelOf _ _ _ _ rfl

theorem Laws.EncodingLength.moveVmS (i : Reg) : Laws.EncodingLength.Statement (.moveVmS i) := Laws.encodingLength_parcelOf _ _ _ _ rfl

theorem Laws.EncodingLength.moveRtS (i : Reg) : Laws.EncodingLength.Statement (.moveRtS i) := Laws.encodingLength_parcelOf _ _ _ _ rfl

theorem Laws.EncodingLength.shortS (i : Reg) (jk : BitVec 6) : Laws.EncodingLength.Statement (.shortS i jk) := Laws.encodingLength_parcelJk _ _ _ rfl

theorem Laws.EncodingLength.shortNegS (i : Reg) (jk : BitVec 6) : Laws.EncodingLength.Statement (.shortNegS i jk) := Laws.encodingLength_parcelJk _ _ _ rfl

theorem Laws.EncodingLength.faddS (i : Reg) (j : Reg) (k : Reg) : Laws.EncodingLength.Statement (.faddS i j k) := Laws.encodingLength_parcelOf _ _ _ _ rfl

theorem Laws.EncodingLength.fsubS (i : Reg) (j : Reg) (k : Reg) : Laws.EncodingLength.Statement (.fsubS i j k) := Laws.encodingLength_parcelOf _ _ _ _ rfl

theorem Laws.EncodingLength.fixS (i : Reg) (k : Reg) : Laws.EncodingLength.Statement (.fixS i k) := Laws.encodingLength_parcelOf _ _ _ _ rfl

theorem Laws.EncodingLength.fltS (i : Reg) (k : Reg) : Laws.EncodingLength.Statement (.fltS i k) := Laws.encodingLength_parcelOf _ _ _ _ rfl

theorem Laws.EncodingLength.fmulS (i : Reg) (j : Reg) (k : Reg) : Laws.EncodingLength.Statement (.fmulS i j k) := Laws.encodingLength_parcelOf _ _ _ _ rfl

theorem Laws.EncodingLength.fmulS125 (i : Reg) (j : Reg) (k : Reg) : Laws.EncodingLength.Statement (.fmulS125 i j k) := Laws.encodingLength_parcelOf _ _ _ _ rfl

theorem Laws.EncodingLength.recipIterS (i : Reg) (j : Reg) (k : Reg) : Laws.EncodingLength.Statement (.recipIterS i j k) := Laws.encodingLength_parcelOf _ _ _ _ rfl

theorem Laws.EncodingLength.rsqrtIterS (i : Reg) (j : Reg) (k : Reg) : Laws.EncodingLength.Statement (.rsqrtIterS i j k) := Laws.encodingLength_parcelOf _ _ _ _ rfl

theorem Laws.EncodingLength.moveAS (i : Reg) (k : Reg) : Laws.EncodingLength.Statement (.moveAS i k) := Laws.encodingLength_parcelOf _ _ _ _ rfl

theorem Laws.EncodingLength.moveASigned (i : Reg) (k : Reg) : Laws.EncodingLength.Statement (.moveASigned i k) := Laws.encodingLength_parcelOf _ _ _ _ rfl

theorem Laws.EncodingLength.recipS (i : Reg) (j : Reg) : Laws.EncodingLength.Statement (.recipS i j) := Laws.encodingLength_parcelOf _ _ _ _ rfl

theorem Laws.EncodingLength.rsqrtS (i : Reg) (j : Reg) : Laws.EncodingLength.Statement (.rsqrtS i j) := Laws.encodingLength_parcelOf _ _ _ _ rfl

theorem Laws.EncodingLength.setShared (j : Reg) (k : Reg) : Laws.EncodingLength.Statement (.setShared j k) := Laws.encodingLength_parcelOf _ _ _ _ rfl

theorem Laws.EncodingLength.pass135 : Laws.EncodingLength.Statement .pass135 := Laws.encodingLength_parcelOf _ _ _ _ rfl

theorem Laws.EncodingLength.readShared (i : Reg) (j : Reg) : Laws.EncodingLength.Statement (.readShared i j) := Laws.encodingLength_parcelOf _ _ _ _ rfl

theorem Laws.EncodingLength.incShared (i : Reg) (j : Reg) : Laws.EncodingLength.Statement (.incShared i j) := Laws.encodingLength_parcelOf _ _ _ _ rfl

theorem Laws.EncodingLength.andSV (i : Reg) (j : Reg) (k : Reg) : Laws.EncodingLength.Statement (.andSV i j k) := Laws.encodingLength_parcelOf _ _ _ _ rfl

theorem Laws.EncodingLength.andVV (i : Reg) (j : Reg) (k : Reg) : Laws.EncodingLength.Statement (.andVV i j k) := Laws.encodingLength_parcelOf _ _ _ _ rfl

theorem Laws.EncodingLength.xorSV (i : Reg) (j : Reg) (k : Reg) : Laws.EncodingLength.Statement (.xorSV i j k) := Laws.encodingLength_parcelOf _ _ _ _ rfl

theorem Laws.EncodingLength.xorVV (i : Reg) (j : Reg) (k : Reg) : Laws.EncodingLength.Statement (.xorVV i j k) := Laws.encodingLength_parcelOf _ _ _ _ rfl

theorem Laws.EncodingLength.clearV (i : Reg) : Laws.EncodingLength.Statement (.clearV i) := Laws.encodingLength_parcelOf _ _ _ _ rfl

theorem Laws.EncodingLength.orSV (i : Reg) (j : Reg) (k : Reg) : Laws.EncodingLength.Statement (.orSV i j k) := Laws.encodingLength_parcelOf _ _ _ _ rfl

theorem Laws.EncodingLength.broadcastV (i : Reg) (j : Reg) : Laws.EncodingLength.Statement (.broadcastV i j) := Laws.encodingLength_parcelOf _ _ _ _ rfl

theorem Laws.EncodingLength.orVV (i : Reg) (j : Reg) (k : Reg) : Laws.EncodingLength.Statement (.orVV i j k) := Laws.encodingLength_parcelOf _ _ _ _ rfl

theorem Laws.EncodingLength.copyV (i : Reg) (j : Reg) : Laws.EncodingLength.Statement (.copyV i j) := Laws.encodingLength_parcelOf _ _ _ _ rfl

theorem Laws.EncodingLength.mergeSV (i : Reg) (j : Reg) (k : Reg) : Laws.EncodingLength.Statement (.mergeSV i j k) := Laws.encodingLength_parcelOf _ _ _ _ rfl

theorem Laws.EncodingLength.mergeVV (i : Reg) (j : Reg) (k : Reg) : Laws.EncodingLength.Statement (.mergeVV i j k) := Laws.encodingLength_parcelOf _ _ _ _ rfl

theorem Laws.EncodingLength.shlV (i : Reg) (j : Reg) (k : Reg) : Laws.EncodingLength.Statement (.shlV i j k) := Laws.encodingLength_parcelOf _ _ _ _ rfl

theorem Laws.EncodingLength.shrV (i : Reg) (j : Reg) (k : Reg) : Laws.EncodingLength.Statement (.shrV i j k) := Laws.encodingLength_parcelOf _ _ _ _ rfl

theorem Laws.EncodingLength.dshlV (i : Reg) (j : Reg) (k : Reg) : Laws.EncodingLength.Statement (.dshlV i j k) := Laws.encodingLength_parcelOf _ _ _ _ rfl

theorem Laws.EncodingLength.dshrV (i : Reg) (j : Reg) (k : Reg) : Laws.EncodingLength.Statement (.dshrV i j k) := Laws.encodingLength_parcelOf _ _ _ _ rfl

theorem Laws.EncodingLength.fmulSV (i : Reg) (j : Reg) (k : Reg) : Laws.EncodingLength.Statement (.fmulSV i j k) := Laws.encodingLength_parcelOf _ _ _ _ rfl

theorem Laws.EncodingLength.fmulVV (i : Reg) (j : Reg) (k : Reg) : Laws.EncodingLength.Statement (.fmulVV i j k) := Laws.encodingLength_parcelOf _ _ _ _ rfl

theorem Laws.EncodingLength.recipIterV (i : Reg) (j : Reg) (k : Reg) : Laws.EncodingLength.Statement (.recipIterV i j k) := Laws.encodingLength_parcelOf _ _ _ _ rfl

theorem Laws.EncodingLength.rsqrtIterV (i : Reg) (j : Reg) (k : Reg) : Laws.EncodingLength.Statement (.rsqrtIterV i j k) := Laws.encodingLength_parcelOf _ _ _ _ rfl

theorem Laws.EncodingLength.addSV (i : Reg) (j : Reg) (k : Reg) : Laws.EncodingLength.Statement (.addSV i j k) := Laws.encodingLength_parcelOf _ _ _ _ rfl

theorem Laws.EncodingLength.addVV (i : Reg) (j : Reg) (k : Reg) : Laws.EncodingLength.Statement (.addVV i j k) := Laws.encodingLength_parcelOf _ _ _ _ rfl

theorem Laws.EncodingLength.subSV (i : Reg) (j : Reg) (k : Reg) : Laws.EncodingLength.Statement (.subSV i j k) := Laws.encodingLength_parcelOf _ _ _ _ rfl

theorem Laws.EncodingLength.subVV (i : Reg) (j : Reg) (k : Reg) : Laws.EncodingLength.Statement (.subVV i j k) := Laws.encodingLength_parcelOf _ _ _ _ rfl

theorem Laws.EncodingLength.negV (i : Reg) (k : Reg) : Laws.EncodingLength.Statement (.negV i k) := Laws.encodingLength_parcelOf _ _ _ _ rfl

theorem Laws.EncodingLength.popV (i : Reg) (j : Reg) : Laws.EncodingLength.Statement (.popV i j) := Laws.encodingLength_parcelOf _ _ _ _ rfl

theorem Laws.EncodingLength.parityV (i : Reg) (j : Reg) : Laws.EncodingLength.Statement (.parityV i j) := Laws.encodingLength_parcelOf _ _ _ _ rfl

theorem Laws.EncodingLength.sub164a (i : Reg) (j : Reg) (n : Fin 2) : Laws.EncodingLength.Statement (.sub164a i j n) := Laws.encodingLength_parcelOf _ _ _ _ rfl

theorem Laws.EncodingLength.sub164b (i : Reg) (j : Reg) (n : Fin 4) : Laws.EncodingLength.Statement (.sub164b i j n) := Laws.encodingLength_parcelOf _ _ _ _ rfl

theorem Laws.EncodingLength.lzV (i : Reg) (j : Reg) : Laws.EncodingLength.Statement (.lzV i j) := Laws.encodingLength_parcelOf _ _ _ _ rfl

theorem Laws.EncodingLength.recipV (i : Reg) (k : Reg) : Laws.EncodingLength.Statement (.recipV i k) := Laws.encodingLength_parcelOf _ _ _ _ rfl

theorem Laws.EncodingLength.rsqrtV (i : Reg) (k : Reg) : Laws.EncodingLength.Statement (.rsqrtV i k) := Laws.encodingLength_parcelOf _ _ _ _ rfl

theorem Laws.EncodingLength.faddSV (i : Reg) (j : Reg) (k : Reg) : Laws.EncodingLength.Statement (.faddSV i j k) := Laws.encodingLength_parcelOf _ _ _ _ rfl

theorem Laws.EncodingLength.faddVV (i : Reg) (j : Reg) (k : Reg) : Laws.EncodingLength.Statement (.faddVV i j k) := Laws.encodingLength_parcelOf _ _ _ _ rfl

theorem Laws.EncodingLength.fsubSV (i : Reg) (j : Reg) (k : Reg) : Laws.EncodingLength.Statement (.fsubSV i j k) := Laws.encodingLength_parcelOf _ _ _ _ rfl

theorem Laws.EncodingLength.fsubVV (i : Reg) (j : Reg) (k : Reg) : Laws.EncodingLength.Statement (.fsubVV i j k) := Laws.encodingLength_parcelOf _ _ _ _ rfl

theorem Laws.EncodingLength.fnegV (i : Reg) (k : Reg) : Laws.EncodingLength.Statement (.fnegV i k) := Laws.encodingLength_parcelOf _ _ _ _ rfl

theorem Laws.EncodingLength.fixV (i : Reg) (k : Reg) : Laws.EncodingLength.Statement (.fixV i k) := Laws.encodingLength_parcelOf _ _ _ _ rfl

theorem Laws.EncodingLength.fltV (i : Reg) (k : Reg) : Laws.EncodingLength.Statement (.fltV i k) := Laws.encodingLength_parcelOf _ _ _ _ rfl

theorem Laws.EncodingLength.iota (i : Reg) (j : Reg) (k : Reg) : Laws.EncodingLength.Statement (.iota i j k) := Laws.encodingLength_parcelOf _ _ _ _ rfl

theorem Laws.EncodingLength.iota177 (i : Reg) (j : Reg) (k : Reg) : Laws.EncodingLength.Statement (.iota177 i j k) := Laws.encodingLength_parcelOf _ _ _ _ rfl

end Sys2Proof
end

