-- ==== Sys2Proof/Tests/Slice0.lean ====
section
/-! SUPPORT. Tests: ill-formed terms that WellFormed refuses, words of the spec's listings and what they decode to, the vectors of spec/96_derived_vectors.md, and for every statement with hypotheses a state and operands that meet them. Expected results are the spec's (spec/95_test_vectors.md, spec/96_derived_vectors.md). -/

set_option Elab.async false

namespace Sys2Proof.Tests

open Sys2Proof Sys2Proof.Machine

/-! ## Helpers -/

/-- The processor of the vectors: BA = 512, LA = 1024, running, P = 0 (spec/95_test_vectors.md section 0). -/
def base : State :=
  { State.reset with ba := 512, la := 1024, run := .running, bps := { Bps.reset with idleMode := false } }

/-- A vector register whose first elements are given. -/
def put (n : Reg) (vs : List Word) (s : State) : State := s.setVect n (Vector.ofFn fun e => vs.getD e.val 0)

/-- A Common Memory word at a relative address. -/
def cmWord (r : Nat) (v : Word) (s : State) : State := { s with cm := s.cm.write (512 + r) v }

/-- The assigned semaphore flag. -/
def flag (b : Bool) (s : State) : State := { s with sem := s.sem.set 0 b }

/-- The two halt enables. -/
def enables (range fp : Bool) (s : State) : State :=
  { s with bps := { s.bps with rangeHaltEnable := range, fpEnable := fp } }

/-- A machine with Shared registers. -/
def shared (s : State) : State := { s with params := { s.params with serial := .sn2025 } }

/-- Local Memory addresses taken by their low 14 bits. -/
def wrapping (s : State) : State := { s with params := { s.params with lmAddrMode := .wrap14 } }

/-- A reading of `V_SRC_EQ_DST`. -/
def overlapBy (m : OverlapMode) (s : State) : State := { s with params := { s.params with vSrcEqDst := m } }

/-- The program order reading of Common Memory. -/
def ordered (s : State) : State := { s with params := { s.params with cmProgramOrder := true } }

/-- The first elements of a vector register. -/
def firsts (s : State) (n : Reg) (k : Nat) : List Word := ((List.finRange 64).take k).map (s.V n)

/-- A result is a next state with a property. -/
def gives (r : Result) (f : State → Bool) : Bool :=
  match r with
  | .next t => f t
  | .fault _ => false
  | .refused _ => false

/-- The parcels decode to an instruction whose meaning gives a next state with a property. -/
def does (ps : List Parcel) (s : State) (f : State → Bool) : Bool :=
  match decode ps with
  | .ok (i, []) => gives (exec i s) f
  | .ok _ => false
  | .error _ => false

/-! ## Well-formedness -/

/-- Each check of WellFormed refuses a term that stands for the words of another row. -/
theorem test_wellFormed_refuses :
  (Instr.exitExp 0).wf = false ∧ (Instr.exitExp 1).wf = false ∧ (Instr.jumpLink 3 3).wf = false ∧
  (Instr.orS 1 2 2).wf = false ∧ (Instr.xorVV 6 6 6).wf = false ∧ (Instr.orSV 1 2 1).wf = false ∧
  (Instr.orVV 1 2 2).wf = false ∧ (Instr.subVV 7 7 4).wf = false ∧ (Instr.fsubVV 5 5 6).wf = false := by decide

/-- The neighbours of the refused terms are well formed. -/
theorem test_wellFormed_accepts :
  (Instr.exitExp 2).wf = true ∧ (Instr.jumpLink 3 4).wf = true ∧ (Instr.orS 1 2 1).wf = true ∧
  (Instr.xorVV 6 6 5).wf = true ∧ (Instr.orSV 1 2 2).wf = true ∧ (Instr.orVV 2 2 1).wf = true ∧
  (Instr.subVV 7 4 7).wf = true ∧ (Instr.fsubVV 5 6 5).wf = true := by decide

/-! ## Decoding: words of the listings of spec/95_test_vectors.md and of spec/96_derived_vectors.md -/

/-- Codes 000 to 007. -/
theorem test_decode_000_a :
  decode [0o000000] = .ok (.err, []) ∧
  decode [0o000001] = .ok (.exit, []) ∧
  decode [0o000004] = .ok (.exitExp 4, []) ∧
  decode [0o002102] = .ok (.jumpLink 1 2, []) ∧
  decode [0o002101] = .ok (.jumpReg 1, []) ∧
  decode [0o003000, 0o000000, 0o000053] = .ok (.jump 0x2b, []) ∧
  decode [0o004000, 0o000000, 0o000124] = .ok (.jcs 0x54, []) := by decide

/-- Codes 000 to 007. -/
theorem test_decode_000_b :
  decode [0o005000, 0o000000, 0o000124] = .ok (.jss 0x54, []) ∧
  decode [0o006000] = .ok (.ssm, []) ∧
  decode [0o007000] = .ok (.csm, []) ∧
  decode [0o000700] = .ok (.err, []) ∧
  decode [0o001000] = .ok (.cmr, []) ∧
  decode [0o001777] = .ok (.cmr, []) := by decide

/-- Codes 010 to 017. -/
theorem test_decode_010 :
  decode [0o010001, 0o000000, 0o000000] = .ok (.jzA 1 0x0, []) ∧
  decode [0o011007, 0o000000, 0o000001] = .ok (.jnA 7 0x1, []) ∧
  decode [0o012005, 0o000000, 0o000002] = .ok (.jpA 5 0x2, []) ∧
  decode [0o013002, 0o000000, 0o000003] = .ok (.jmA 2 0x3, []) ∧
  decode [0o014010, 0o000000, 0o000004] = .ok (.jzS 1 0x4, []) ∧
  decode [0o015040, 0o000000, 0o000005] = .ok (.jnS 4 0x5, []) ∧
  decode [0o016060, 0o000000, 0o000006] = .ok (.jpS 6 0x6, []) ∧
  decode [0o017020, 0o000000, 0o000007] = .ok (.jmS 2 0x7, []) := by decide

/-- Codes 020 to 027. -/
theorem test_decode_020 :
  decode [0o020123] = .ok (.addA 1 2 3, []) ∧
  decode [0o021123] = .ok (.subA 1 2 3, []) ∧
  decode [0o022123] = .ok (.mulA 1 2 3, []) ∧
  decode [0o024120] = .ok (.moveSA 1 2, []) ∧
  decode [0o025400] = .ok (.moveVlA 4, []) ∧
  decode [0o026001] = .ok (.shortA 0 1, []) ∧
  decode [0o027177] = .ok (.shortNegA 1 63, []) ∧
  decode [0o023123] = .ok (.mulA023 1 2 3, []) := by decide

/-- Codes 030 to 037. -/
theorem test_decode_030_a :
  decode [0o030001] = .ok (.vmZero 1, []) ∧
  decode [0o031001] = .ok (.vmNonzero 1, []) ∧
  decode [0o032001] = .ok (.vmPositive 1, []) ∧
  decode [0o033001] = .ok (.vmNegative 1, []) ∧
  decode [0o034020] = .ok (.moveSVm 2, []) ∧
  decode [0o035000] = .ok (.dri, []) := by decide

/-- Codes 030 to 037. -/
theorem test_decode_030_b :
  decode [0o035001] = .ok (.eri, []) ∧
  decode [0o035002] = .ok (.dfi, []) ∧
  decode [0o035003] = .ok (.efi, []) ∧
  decode [0o036004] = .ok (.moveAVl 4, []) ∧
  decode [0o035004] = .ok (.sub035 0, []) ∧
  decode [0o037004] = .ok (.moveAVl037 4, []) := by decide

/-- Codes 040 to 047. -/
theorem test_decode_040 :
  decode [0o042500, 0o000000, 0o000001] = .ok (.halfA 5 0x1, []) ∧
  decode [0o040100, 0o000174] = .ok (.parcelA 1 124, []) ∧
  decode [0o041100, 0o177604] = .ok (.parcelNegA 1 65412, []) ∧
  decode [0o044100, 0o000003] = .ok (.loadALm 1 3, []) ∧
  decode [0o045001, 0o000003] = .ok (.storeALm 1 3, []) ∧
  decode [0o046102] = .ok (.loadALmReg 1 2, []) ∧
  decode [0o047012] = .ok (.storeALmReg 1 2, []) ∧
  decode [0o043100, 0o157255, 0o137357] = .ok (.halfA043 1 0xdeadbeef, []) := by decide

/-- Codes 050 to 057. -/
theorem test_decode_050 :
  decode [0o050100, 0o000020, 0o172107] = .ok (.halfS 1 0x10f447, []) ∧
  decode [0o051100, 0o177757, 0o005671] = .ok (.halfNegS 1 0xffef0bb9, []) ∧
  decode [0o052100, 0o000000, 0o000007] = .ok (.leftS 1 0x7, []) ∧
  decode [0o053000, 0o000000, 0o000000, 0o000000, 0o004321] = .ok (.fullS 0 0x8d1, []) ∧
  decode [0o054100, 0o000001] = .ok (.loadSLm 1 1, []) ∧
  decode [0o055010, 0o000001] = .ok (.storeSLm 1 1, []) ∧
  decode [0o056102] = .ok (.loadSLmReg 1 2, []) ∧
  decode [0o057102] = .ok (.storeSLmReg 1 2, []) := by decide

/-- Codes 060 to 067. -/
theorem test_decode_060 :
  decode [0o060123] = .ok (.loadSSum 1 2 3, []) ∧
  decode [0o061123] = .ok (.storeSSum 1 2 3, []) ∧
  decode [0o062102] = .ok (.loadSReg 1 2, []) ∧
  decode [0o063102] = .ok (.storeSReg 1 2, []) ∧
  decode [0o064102, 0o000000, 0o000001] = .ok (.loadSDisp 1 2 0x1, []) ∧
  decode [0o065102, 0o000000, 0o000001] = .ok (.storeSDisp 1 2 0x1, []) ∧
  decode [0o066100, 0o000000, 0o000003] = .ok (.loadSAbs 1 0x3, []) ∧
  decode [0o067100, 0o000000, 0o000003] = .ok (.storeSAbs 1 0x3, []) := by decide

/-- Codes 070 to 077. -/
theorem test_decode_070 :
  decode [0o070123] = .ok (.loadVStride 1 2 3, []) ∧
  decode [0o071123] = .ok (.storeVStride 1 2 3, []) ∧
  decode [0o072132] = .ok (.gather 1 3 2, []) ∧
  decode [0o073132] = .ok (.scatter 1 3 2, []) ∧
  decode [0o074102] = .ok (.loadVLm 1 2, []) ∧
  decode [0o075102] = .ok (.storeVLm 1 2, []) ∧
  decode [0o076000] = .ok (.pass, []) ∧
  decode [0o077777] = .ok (.pass077, []) := by decide

/-- Codes 100 to 107. -/
theorem test_decode_100_a :
  decode [0o100123] = .ok (.andS 1 2 3, []) ∧
  decode [0o101132] = .ok (.andNotS 1 3 2, []) ∧
  decode [0o102123] = .ok (.xorS 1 2 3, []) ∧
  decode [0o103123] = .ok (.orS 1 2 3, []) ∧
  decode [0o103122] = .ok (.copyS 1 2, []) ∧
  decode [0o104123] = .ok (.addS 1 2 3, []) := by decide

/-- Codes 100 to 107. -/
theorem test_decode_100_b :
  decode [0o105123] = .ok (.subS 1 2 3, []) ∧
  decode [0o106120] = .ok (.popS 1 2, []) ∧
  decode [0o106121] = .ok (.parityS 1 2, []) ∧
  decode [0o107120] = .ok (.lzS 1 2, []) ∧
  decode [0o106122] = .ok (.sub106a 1 2 0, []) ∧
  decode [0o106127] = .ok (.sub106b 1 2 3, []) := by decide

/-- Codes 110 to 117. -/
theorem test_decode_110 :
  decode [0o116403] = .ok (.shortS 4 3, []) ∧
  decode [0o117775] = .ok (.shortNegS 7 61, []) ∧
  decode [0o110177] = .ok (.shlS 1 63, []) ∧
  decode [0o111100] = .ok (.shrS 1 0, []) ∧
  decode [0o112123] = .ok (.dshlS 1 2 3, []) ∧
  decode [0o113123] = .ok (.dshrS 1 2 3, []) ∧
  decode [0o114100] = .ok (.moveVmS 1, []) ∧
  decode [0o115100] = .ok (.moveRtS 1, []) := by decide

/-- Codes 120 to 127. -/
theorem test_decode_120 :
  decode [0o120123] = .ok (.faddS 1 2 3, []) ∧
  decode [0o121123] = .ok (.fsubS 1 2 3, []) ∧
  decode [0o122102] = .ok (.fixS 1 2, []) ∧
  decode [0o123102] = .ok (.fltS 1 2, []) ∧
  decode [0o124123] = .ok (.fmulS 1 2 3, []) ∧
  decode [0o126123] = .ok (.recipIterS 1 2 3, []) ∧
  decode [0o127112] = .ok (.rsqrtIterS 1 1 2, []) ∧
  decode [0o125123] = .ok (.fmulS125 1 2 3, []) := by decide

/-- Codes 130 to 137. -/
theorem test_decode_130 :
  decode [0o132320] = .ok (.recipS 3 2, []) ∧
  decode [0o130102] = .ok (.moveAS 1 2, []) ∧
  decode [0o131102] = .ok (.moveASigned 1 2, []) ∧
  decode [0o133120] = .ok (.rsqrtS 1 2, []) ∧
  decode [0o134012] = .ok (.setShared 1 2, []) ∧
  decode [0o135123] = .ok (.pass135, []) ∧
  decode [0o136310] = .ok (.readShared 3 1, []) ∧
  decode [0o137300] = .ok (.incShared 3 0, []) := by decide

/-- Codes 140 to 147. -/
theorem test_decode_140_a :
  decode [0o140123] = .ok (.andSV 1 2 3, []) ∧
  decode [0o141123] = .ok (.andVV 1 2 3, []) ∧
  decode [0o142123] = .ok (.xorSV 1 2 3, []) ∧
  decode [0o143123] = .ok (.xorVV 1 2 3, []) ∧
  decode [0o143666] = .ok (.clearV 6, []) ∧
  decode [0o144123] = .ok (.orSV 1 2 3, []) := by decide

/-- Codes 140 to 147. -/
theorem test_decode_140_b :
  decode [0o144121] = .ok (.broadcastV 1 2, []) ∧
  decode [0o145123] = .ok (.orVV 1 2 3, []) ∧
  decode [0o145122] = .ok (.copyV 1 2, []) ∧
  decode [0o146123] = .ok (.mergeSV 1 2 3, []) ∧
  decode [0o147123] = .ok (.mergeVV 1 2 3, []) := by decide

/-- Codes 150 to 157. -/
theorem test_decode_150 :
  decode [0o150123] = .ok (.shlV 1 2 3, []) ∧
  decode [0o151123] = .ok (.shrV 1 2 3, []) ∧
  decode [0o152123] = .ok (.dshlV 1 2 3, []) ∧
  decode [0o153123] = .ok (.dshrV 1 2 3, []) ∧
  decode [0o154123] = .ok (.fmulSV 1 2 3, []) ∧
  decode [0o155123] = .ok (.fmulVV 1 2 3, []) ∧
  decode [0o156123] = .ok (.recipIterV 1 2 3, []) ∧
  decode [0o157123] = .ok (.rsqrtIterV 1 2 3, []) := by decide

/-- Codes 160 to 167. -/
theorem test_decode_160_a :
  decode [0o160123] = .ok (.addSV 1 2 3, []) ∧
  decode [0o161123] = .ok (.addVV 1 2 3, []) ∧
  decode [0o162123] = .ok (.subSV 1 2 3, []) ∧
  decode [0o163123] = .ok (.subVV 1 2 3, []) ∧
  decode [0o163774] = .ok (.negV 7 4, []) ∧
  decode [0o164120] = .ok (.popV 1 2, []) := by decide

/-- Codes 160 to 167. -/
theorem test_decode_160_b :
  decode [0o164121] = .ok (.parityV 1 2, []) ∧
  decode [0o165120] = .ok (.lzV 1 2, []) ∧
  decode [0o166102] = .ok (.recipV 1 2, []) ∧
  decode [0o167103] = .ok (.rsqrtV 1 3, []) ∧
  decode [0o164122] = .ok (.sub164a 1 2 0, []) ∧
  decode [0o164127] = .ok (.sub164b 1 2 3, []) := by decide

/-- Codes 170 to 177. -/
theorem test_decode_170 :
  decode [0o170123] = .ok (.faddSV 1 2 3, []) ∧
  decode [0o171123] = .ok (.faddVV 1 2 3, []) ∧
  decode [0o172123] = .ok (.fsubSV 1 2 3, []) ∧
  decode [0o173123] = .ok (.fsubVV 1 2 3, []) ∧
  decode [0o173556] = .ok (.fnegV 5 6, []) ∧
  decode [0o174102] = .ok (.fixV 1 2, []) ∧
  decode [0o175102] = .ok (.fltV 1 2, []) ∧
  decode [0o176123] = .ok (.iota 1 2 3, []) ∧
  decode [0o177123] = .ok (.iota177 1 2 3, []) := by decide

/-! ## Instructions, one step each -/

/-- Codes 000 to 007: vectors of spec/96_derived_vectors.md. -/
theorem test_000_to_007 :
  does [0o000004] base
    (fun t => decide (t.ended = some (.exited 4)) && t.bps.exitMode && t.bps.idleMode && t.bps.exitCode == 4) = true ∧
  does [0o000700] base
    (fun t => decide (t.ended = some (.exited 0)) && t.bps.exitMode && t.bps.idleMode && t.bps.exitCode == 0) = true ∧
  does [0o001000] base
    (fun t => t.p == 1) = true ∧
  does [0o001777] base
    (fun t => t.p == 1) = true ∧
  does [0o002102] (base |> State.setA 2 0x100)
    (fun t => t.p == 0x100 && t.A 1 == 1) = true ∧
  does [0o002101] (base |> State.setA 1 0x40)
    (fun t => t.p == 0x40 && t.A 1 == 1) = true ∧
  does [0o003000, 0o000000, 0o000053] base
    (fun t => t.p == 0x2b) = true ∧
  does [0o004000, 0o000000, 0o000124] (base |> flag false)
    (fun t => t.p == 0x54 && t.bps.semBit && t.semf) = true ∧
  does [0o004000, 0o000000, 0o000124] (base |> flag true)
    (fun t => t.p == 3) = true ∧
  does [0o005000, 0o000000, 0o000124] (base |> flag false)
    (fun t => t.p == 3 && t.bps.semBit && t.semf) = true ∧
  does [0o005000, 0o000000, 0o000124] (base |> flag true)
    (fun t => t.p == 0x54) = true ∧
  does [0o006000] (base |> flag false)
    (fun t => t.bps.semBit && t.semf && t.p == 1) = true ∧
  does [0o007000] (base |> flag true)
    (fun t => !t.semf && t.p == 1) = true := by decide

/-- Codes 010 to 017: vectors of spec/96_derived_vectors.md. -/
theorem test_010_to_017 :
  does [0o010001, 0o000000, 0o000020] (base |> State.setA 1 0)
    (fun t => t.p == 0x10) = true ∧
  does [0o011001, 0o000000, 0o000020] (base |> State.setA 1 0)
    (fun t => t.p == 3) = true ∧
  does [0o012001, 0o000000, 0o000020] (base |> State.setA 1 0)
    (fun t => t.p == 0x10) = true ∧
  does [0o012001, 0o000000, 0o000020] (base |> State.setA 1 0x80000000)
    (fun t => t.p == 3) = true ∧
  does [0o013001, 0o000000, 0o000020] (base |> State.setA 1 0x80000000)
    (fun t => t.p == 0x10) = true ∧
  does [0o014010, 0o000000, 0o000020] (base |> State.setS 1 0x100000000)
    (fun t => t.p == 3) = true ∧
  does [0o015010, 0o000000, 0o000020] (base |> State.setS 1 0x100000000)
    (fun t => t.p == 0x10) = true ∧
  does [0o016010, 0o000000, 0o000020] (base |> State.setS 1 0)
    (fun t => t.p == 0x10) = true ∧
  does [0o017010, 0o000000, 0o000020] (base |> State.setS 1 0xc001800000000000)
    (fun t => t.p == 0x10) = true := by decide

/-- Codes 020 to 027: vectors of spec/96_derived_vectors.md. -/
theorem test_020_to_027 :
  does [0o020123] (base |> State.setA 2 0xffffffff |> State.setA 3 2)
    (fun t => t.A 1 == 1 && t.p == 1) = true ∧
  does [0o021123] (base |> State.setA 2 0 |> State.setA 3 1)
    (fun t => t.A 1 == 0xffffffff && t.p == 1) = true ∧
  does [0o022123] (base |> State.setA 2 0x10000 |> State.setA 3 0x10001)
    (fun t => t.A 1 == 0x10000 && t.p == 1) = true ∧
  does [0o022123] (base |> State.setA 2 0xfffffffe |> State.setA 3 3)
    (fun t => t.A 1 == 0xfffffffa && t.p == 1) = true ∧
  does [0o023123] (base |> State.setA 2 7 |> State.setA 3 6)
    (fun t => t.A 1 == 0x2a && t.p == 1) = true ∧
  does [0o024120] (base |> State.setS 2 0x123456789abcdef0)
    (fun t => t.A 1 == 0x9abcdef0 && t.p == 1) = true ∧
  does [0o025400] (base |> State.setVl 0)
    (fun t => t.A 4 == 0 && t.p == 1) = true ∧
  does [0o025400] (base |> State.setVl 0xa)
    (fun t => t.A 4 == 0xa && t.p == 1) = true ∧
  does [0o026177] base
    (fun t => t.A 1 == 0x3f && t.p == 1) = true ∧
  does [0o027177] base
    (fun t => t.A 1 == 0xffffffff && t.p == 1) = true ∧
  does [0o027100] base
    (fun t => t.A 1 == 0xffffffc0 && t.p == 1) = true := by decide

/-- Codes 030 to 037: vectors of spec/96_derived_vectors.md. -/
theorem test_030_to_037 :
  does [0o030001] (base |> put 1 [0, 5, 0x8000000000000000, 0] |> State.setVl 4 |> State.setVm 0xffffffffffffffff)
    (fun t => t.vm == 0x9000000000000000 && t.p == 1) = true ∧
  does [0o031001] (base |> put 1 [0, 5, 0x8000000000000000, 0] |> State.setVl 4 |> State.setVm 0)
    (fun t => t.vm == 0x6000000000000000 && t.p == 1) = true ∧
  does [0o032001] (base |> put 1 [0, 5, 0x8000000000000000, 0] |> State.setVl 4 |> State.setVm 0)
    (fun t => t.vm == 0xd000000000000000 && t.p == 1) = true ∧
  does [0o033001] (base |> put 1 [0, 5, 0x8000000000000000, 0] |> State.setVl 4 |> State.setVm 0)
    (fun t => t.vm == 0x2000000000000000 && t.p == 1) = true ∧
  does [0o034020] (base |> State.setS 2 0xa000000000000001 |> State.setVm 0)
    (fun t => t.vm == 0xa000000000000001 && t.p == 1) = true ∧
  does [0o034000] (base |> State.setS 0 0x55 |> State.setVm 0)
    (fun t => t.vm == 0x55 && t.p == 1) = true ∧
  does [0o035001] base
    (fun t => t.bps.rangeHaltEnable && t.p == 1) = true ∧
  does [0o035003] base
    (fun t => t.bps.fpEnable && t.p == 1) = true ∧
  does [0o035000] (base |> enables true false)
    (fun t => !t.bps.rangeHaltEnable && t.p == 1) = true ∧
  does [0o036004] (base |> State.setA 4 0x40 |> State.setVl 1)
    (fun t => t.vl == 0 && t.p == 1) = true ∧
  does [0o036004] (base |> State.setA 4 0x41 |> State.setVl 0)
    (fun t => t.vl == 1 && t.p == 1) = true ∧
  does [0o037004] (base |> State.setA 4 0xffffffff |> State.setVl 0)
    (fun t => t.vl == 0x3f && t.p == 1) = true := by decide

/-- Codes 040 to 047: vectors of spec/96_derived_vectors.md. -/
theorem test_040_to_047 :
  does [0o040100, 0o000174] base
    (fun t => t.A 1 == 0x7c && t.p == 2) = true ∧
  does [0o041100, 0o177604] base
    (fun t => t.A 1 == 0xffffff84 && t.p == 2) = true ∧
  does [0o041100, 0o000007] base
    (fun t => t.A 1 == 0xffff0007 && t.p == 2) = true ∧
  does [0o042100, 0o000020, 0o172107] base
    (fun t => t.A 1 == 0x10f447 && t.p == 3) = true ∧
  does [0o043100, 0o157255, 0o137357] base
    (fun t => t.A 1 == 0xdeadbeef && t.p == 3) = true ∧
  does [0o044100, 0o000003] (base |> State.lmWrite 3 0x1111111180000001)
    (fun t => t.A 1 == 0x80000001 && t.p == 2) = true ∧
  does [0o045001, 0o000003] (base |> State.setA 1 0x80000001)
    (fun t => t.lm.read 3 == 0xffffffff80000001 && t.p == 2) = true ∧
  does [0o046102] (base |> State.setA 2 0x3fff |> State.lmWrite 16383 0xffffffff00000007)
    (fun t => t.A 1 == 7 && t.p == 1) = true ∧
  does [0o047012] (base |> State.setA 1 0x7fffffff |> State.setA 2 0)
    (fun t => t.lm.read 0 == 0x7fffffff && t.p == 1) = true := by decide

/-- Codes 050 to 057: vectors of spec/96_derived_vectors.md. -/
theorem test_050_to_057 :
  does [0o050100, 0o000020, 0o172107] base
    (fun t => t.S 1 == 0x10f447 && t.p == 3) = true ∧
  does [0o051100, 0o177757, 0o005671] base
    (fun t => t.S 1 == 0xffffffffffef0bb9 && t.p == 3) = true ∧
  does [0o052200, 0o040001, 0o100000] base
    (fun t => t.S 2 == 0x4001800000000000 && t.p == 3) = true ∧
  does [0o053100, 0o000123, 0o113560, 0o051627, 0o070123] base
    (fun t => t.p == 5 && t.S 1 == 0x53977053977053) = true ∧
  does [0o054100, 0o000001] (base |> State.lmWrite 1 0xfedcba9876543210)
    (fun t => t.S 1 == 0xfedcba9876543210 && t.p == 2) = true ∧
  does [0o055010, 0o000001] (base |> State.setS 1 0x123456789abcdef)
    (fun t => t.lm.read 1 == 0x123456789abcdef && t.p == 2) = true ∧
  does [0o056102] (base |> State.setA 2 0x64 |> State.lmWrite 100 0x2a)
    (fun t => t.S 1 == 0x2a && t.p == 1) = true ∧
  does [0o057102] (base |> State.setA 2 0x64 |> State.setS 1 0x2b)
    (fun t => t.lm.read 100 == 0x2b && t.p == 1) = true := by decide

/-- Codes 060 to 067: vectors of spec/96_derived_vectors.md. -/
theorem test_060_to_067 :
  does [0o060123] (base |> State.setA 2 0x80 |> State.setA 3 0x10 |> cmWord 144 0x1122334455667788)
    (fun t => t.S 1 == 0x1122334455667788 && t.p == 1) = true ∧
  does [0o061123] (base |> State.setA 2 0x80 |> State.setA 3 0x10 |> State.setS 1 0xcafe)
    (fun t => t.waiting (512 + 144) == [0xcafe] && t.p == 1) = true ∧
  does [0o062102] (base |> State.setA 2 0x20 |> cmWord 32 0x4d)
    (fun t => t.S 1 == 0x4d && t.p == 1) = true ∧
  does [0o062102] (base |> State.setA 2 0x200 |> State.setS 1 5)
    (fun t => t.S 1 == 0 && t.bps.rangeError && t.p == 1) = true ∧
  does [0o063102] (base |> State.setA 2 0x20 |> State.setS 1 0x4e)
    (fun t => t.waiting (512 + 32) == [0x4e] && t.p == 1) = true ∧
  does [0o063102] (base |> State.setA 2 0xffffffff |> State.setS 1 5)
    (fun t => t.bps.rangeError && t.p == 1) = true ∧
  does [0o064102, 0o000000, 0o000001] (base |> State.setA 2 0x20 |> cmWord 33 0x4f)
    (fun t => t.S 1 == 0x4f && t.p == 3) = true ∧
  does [0o065102, 0o177777, 0o177777] (base |> State.setA 2 0x20 |> State.setS 1 0x50)
    (fun t => t.waiting (512 + 31) == [0x50] && t.p == 3) = true ∧
  does [0o066100, 0o000000, 0o000003] (base |> cmWord 3 0x51)
    (fun t => t.S 1 == 0x51 && t.p == 3) = true ∧
  does [0o067100, 0o000000, 0o000003] (base |> State.setS 1 0x52)
    (fun t => t.waiting (512 + 3) == [0x52] && t.p == 3) = true := by decide

/-- Codes 070 to 077: vectors of spec/96_derived_vectors.md. -/
theorem test_070_to_077 :
  does [0o070123] (base |> State.setA 2 0x40 |> State.setA 3 2 |> State.setVl 3 |> cmWord 64 1 |> cmWord 66 2 |> cmWord 68 3)
    (fun t => firsts t 1 3 == [1, 2, 3] && t.p == 1) = true ∧
  does [0o070123] (base |> State.setA 2 0x42 |> State.setA 3 0xffffffff |> State.setVl 3 |> cmWord 64 1 |> cmWord 65 2 |> cmWord 66 3)
    (fun t => firsts t 1 3 == [3, 2, 1] && t.p == 1) = true ∧
  does [0o071123] (base |> State.setA 2 0x40 |> State.setA 3 4 |> put 1 [0xb, 0xc] |> State.setVl 2)
    (fun t => t.waiting (512 + 64) == [0xb] && t.waiting (512 + 68) == [0xc] && t.p == 1) = true ∧
  does [0o072132] (base |> State.setA 2 0x40 |> put 3 [2, 0, 0x500000001] |> State.setVl 3 |> cmWord 64 0x64 |> cmWord 65 0x65 |> cmWord 66 0x66)
    (fun t => firsts t 1 3 == [0x66, 0x64, 0x65] && t.p == 1) = true ∧
  does [0o073132] (base |> State.setA 2 0x40 |> put 1 [7, 8] |> put 3 [3, 1] |> State.setVl 2)
    (fun t => t.waiting (512 + 65) == [8] && t.waiting (512 + 67) == [7] && t.p == 1) = true ∧
  does [0o074102] (base |> State.setA 2 0xa |> State.setVl 2 |> State.lmWrite 10 1 |> State.lmWrite 11 2)
    (fun t => firsts t 1 2 == [1, 2] && t.p == 1) = true ∧
  does [0o075102] (base |> State.setA 2 0xa |> put 1 [5, 6] |> State.setVl 2)
    (fun t => t.lm.read 10 == 5 && t.lm.read 11 == 6 && t.p == 1) = true ∧
  does [0o076001] base
    (fun t => t.p == 1) = true ∧
  does [0o077777] base
    (fun t => t.p == 1) = true := by decide

/-- Codes 100 to 107: vectors of spec/96_derived_vectors.md. -/
theorem test_100_to_107 :
  does [0o100123] (base |> State.setS 2 0xff00ff00ff00ff00 |> State.setS 3 0xff00ff00ff00ff0)
    (fun t => t.S 1 == 0xf000f000f000f00 && t.p == 1) = true ∧
  does [0o101123] (base |> State.setS 2 0xff00ff00ff00ff00 |> State.setS 3 0xff00ff00ff00ff0)
    (fun t => t.S 1 == 0xf000f000f000f000 && t.p == 1) = true ∧
  does [0o102123] (base |> State.setS 2 0xff00ff00ff00ff00 |> State.setS 3 0xff00ff00ff00ff0)
    (fun t => t.S 1 == 0xf0f0f0f0f0f0f0f0 && t.p == 1) = true ∧
  does [0o103123] (base |> State.setS 2 0xff00ff00ff00ff00 |> State.setS 3 0xff00ff00ff00ff0)
    (fun t => t.S 1 == 0xfff0fff0fff0fff0 && t.p == 1) = true ∧
  does [0o104123] (base |> State.setS 2 0xffffffffffffffff |> State.setS 3 1)
    (fun t => t.S 1 == 0 && t.p == 1) = true ∧
  does [0o105123] (base |> State.setS 2 0 |> State.setS 3 1)
    (fun t => t.S 1 == 0xffffffffffffffff && t.p == 1) = true ∧
  does [0o106120] (base |> State.setS 2 0xff00ff00ff00ff00)
    (fun t => t.S 1 == 0x20 && t.p == 1) = true ∧
  does [0o106120] (base |> State.setS 2 0xffffffffffffffff)
    (fun t => t.S 1 == 0x40 && t.p == 1) = true ∧
  does [0o106121] (base |> State.setS 2 7)
    (fun t => t.S 1 == 1 && t.p == 1) = true ∧
  does [0o107120] (base |> State.setS 2 0)
    (fun t => t.S 1 == 0x40 && t.p == 1) = true ∧
  does [0o107120] (base |> State.setS 2 1)
    (fun t => t.S 1 == 0x3f && t.p == 1) = true := by decide

/-- Codes 110 to 117: vectors of spec/96_derived_vectors.md. -/
theorem test_110_to_117 :
  does [0o110177] (base |> State.setS 1 0xc000000000000001)
    (fun t => t.S 1 == 0x8000000000000002 && t.p == 1) = true ∧
  does [0o110300] (base |> State.setS 3 0xffffffffffffffff)
    (fun t => t.S 3 == 0 && t.p == 1) = true ∧
  does [0o111302] (base |> State.setS 3 0x8000000000000004)
    (fun t => t.S 3 == 0x2000000000000001 && t.p == 1) = true ∧
  does [0o111100] (base |> State.setS 1 0x1234)
    (fun t => t.p == 1) = true ∧
  does [0o112123] (base |> State.setA 3 4 |> State.setS 1 0x123456789abcdef |> State.setS 2 0xf000000000000000)
    (fun t => t.S 1 == 0x123456789abcdeff && t.p == 1) = true ∧
  does [0o112123] (base |> State.setA 3 0x40 |> State.setS 1 1 |> State.setS 2 2)
    (fun t => t.S 1 == 2 && t.p == 1) = true ∧
  does [0o113123] (base |> State.setA 3 4 |> State.setS 1 0x123456789abcdef |> State.setS 2 0xf)
    (fun t => t.S 1 == 0xf0123456789abcde && t.p == 1) = true ∧
  does [0o113123] (base |> State.setA 3 0x40 |> State.setS 1 1 |> State.setS 2 2)
    (fun t => t.S 1 == 2 && t.p == 1) = true ∧
  does [0o114100] (base |> State.setVm 0xf0f0)
    (fun t => t.S 1 == 0xf0f0 && t.p == 1) = true ∧
  does [0o116107] base
    (fun t => t.S 1 == 7 && t.p == 1) = true ∧
  does [0o117775] base
    (fun t => t.S 7 == 0xfffffffffffffffd && t.p == 1) = true := by decide

/-- Codes 120 to 127: vectors of spec/96_derived_vectors.md. -/
theorem test_120_to_127 :
  does [0o120123] (base |> State.setS 2 0x4001800000000000 |> State.setS 3 0x4001800000000000)
    (fun t => t.S 1 == 0x4002800000000000 && t.p == 1) = true ∧
  does [0o120123] (base |> State.setS 2 0x4001800000000000 |> State.setS 3 0xc001800000000000)
    (fun t => t.S 1 == 0 && t.p == 1) = true ∧
  does [0o121123] (base |> State.setS 2 0x4002c00000000000 |> State.setS 3 0x4000800000000000)
    (fun t => t.S 1 == 0x4002a00000000000 && t.p == 1) = true ∧
  does [0o122102] (base |> State.setS 2 0x4003c00000000000)
    (fun t => t.S 1 == 6 && t.p == 1) = true ∧
  does [0o122102] (base |> State.setS 2 0xc001800000000000)
    (fun t => t.S 1 == 0xffffffffffffffff && t.p == 1) = true ∧
  does [0o123102] (base |> State.setS 2 6)
    (fun t => t.S 1 == 0x4003c00000000000 && t.p == 1) = true ∧
  does [0o123102] (base |> State.setS 2 0xfffffffffffffffd)
    (fun t => t.S 1 == 0xc002c00000000000 && t.p == 1) = true ∧
  does [0o124123] (base |> State.setS 2 0x4002c00000000000 |> State.setS 3 0x4002800000000000)
    (fun t => t.S 1 == 0x4003c00000000000 && t.p == 1) = true ∧
  does [0o124123] (base |> State.setS 2 0xc001800000000000 |> State.setS 3 0x4000800000000000)
    (fun t => t.S 1 == 0xc000800000000000 && t.p == 1) = true ∧
  does [0o125123] (base |> State.setS 2 0x4002800000000000 |> State.setS 3 0x4002800000000000)
    (fun t => t.S 1 == 0x4003800000000000 && t.p == 1) = true := by decide

/-- Codes 130 to 137: vectors of spec/96_derived_vectors.md. -/
theorem test_130_to_137 :
  does [0o130102] (base |> State.setA 2 0x80000000)
    (fun t => t.S 1 == 0x80000000 && t.p == 1) = true ∧
  does [0o131102] (base |> State.setA 2 0x80000000)
    (fun t => t.S 1 == 0xffffffff80000000 && t.p == 1) = true ∧
  does [0o132120] (base |> State.setS 2 0 |> enables false true)
    (fun t => t.bps.fpError && decide (t.ended = some .haltedFp)) = true ∧
  does [0o133120] (base |> State.setS 2 0xc001800000000000 |> enables false true)
    (fun t => t.bps.fpError && decide (t.ended = some .haltedFp)) = true ∧
  does [0o134012] (base |> State.setA 2 9 |> shared)
    (fun t => t.sr.get 1 == 9 && t.p == 1) = true ∧
  does [0o134012] (base |> State.setA 2 9)
    (fun t => t.p == 1) = true ∧
  does [0o135123] base
    (fun t => t.p == 1) = true ∧
  does [0o136310] (base |> shared |> State.setSr 1 9)
    (fun t => t.A 3 == 9 && t.p == 1) = true ∧
  does [0o137300] (base |> shared |> State.setSr 0 0xffffffff)
    (fun t => t.A 3 == 0xffffffff && t.sr.get 0 == 0 && t.p == 1) = true := by decide

/-- Codes 140 to 147: vectors of spec/96_derived_vectors.md. -/
theorem test_140_to_147 :
  does [0o140123] (base |> State.setS 2 0xf |> put 1 [9, 9, 9, 9] |> put 3 [1, 2, 0xff00, 0xffffffffffffffff] |> State.setVl 2)
    (fun t => firsts t 1 2 == [1, 2] && t.p == 1) = true ∧
  does [0o141123] (base |> put 2 [1, 2, 0xff00, 0xffffffffffffffff] |> put 3 [3, 3, 0xff0, 1] |> State.setVl 4)
    (fun t => firsts t 1 4 == [1, 2, 0xf00, 1] && t.p == 1) = true ∧
  does [0o142123] (base |> State.setS 2 0xffffffffffffffff |> put 3 [1, 2, 0xff00, 0xffffffffffffffff] |> State.setVl 4)
    (fun t => firsts t 1 4 == [0xfffffffffffffffe, 0xfffffffffffffffd, 0xffffffffffff00ff, 0] && t.p == 1) = true ∧
  does [0o143123] (base |> put 2 [1, 2, 0xff00, 0xffffffffffffffff] |> put 3 [3, 3, 0xff0, 1] |> State.setVl 4)
    (fun t => firsts t 1 4 == [2, 1, 0xf0f0, 0xfffffffffffffffe] && t.p == 1) = true ∧
  does [0o143666] (base |> State.setVl 3)
    (fun t => firsts t 6 3 == [0, 0, 0] && t.p == 1) = true ∧
  does [0o144123] (base |> State.setS 2 0x10 |> put 3 [1, 2, 0xff00, 0xffffffffffffffff] |> State.setVl 4)
    (fun t => firsts t 1 4 == [0x11, 0x12, 0xff10, 0xffffffffffffffff] && t.p == 1) = true ∧
  does [0o144121] (base |> State.setS 2 0x77 |> State.setVl 3)
    (fun t => firsts t 1 3 == [0x77, 0x77, 0x77] && t.p == 1) = true ∧
  does [0o145123] (base |> put 2 [1, 2, 0xff00, 0xffffffffffffffff] |> put 3 [3, 3, 0xff0, 1] |> State.setVl 4)
    (fun t => firsts t 1 4 == [3, 3, 0xfff0, 0xffffffffffffffff] && t.p == 1) = true ∧
  does [0o145122] (base |> put 2 [1, 2, 0xff00, 0xffffffffffffffff] |> State.setVl 4)
    (fun t => firsts t 1 4 == [1, 2, 0xff00, 0xffffffffffffffff] && t.p == 1) = true ∧
  does [0o146123] (base |> State.setS 2 0xaaaa |> put 3 [1, 2, 0xff00, 0xffffffffffffffff] |> State.setVl 4 |> State.setVm 0xa000000000000000)
    (fun t => firsts t 1 4 == [0xaaaa, 2, 0xaaaa, 0xffffffffffffffff] && t.p == 1) = true ∧
  does [0o147123] (base |> put 2 [1, 2, 0xff00, 0xffffffffffffffff] |> put 3 [3, 3, 0xff0, 1] |> State.setVl 4 |> State.setVm 0x6000000000000000)
    (fun t => firsts t 1 4 == [3, 2, 0xff00, 1] && t.p == 1) = true := by decide

/-- Codes 150 to 157: vectors of spec/96_derived_vectors.md. -/
theorem test_150_to_157 :
  does [0o150123] (base |> State.setA 3 4 |> put 2 [1, 2, 0xff00, 0xffffffffffffffff] |> State.setVl 4)
    (fun t => firsts t 1 4 == [0x10, 0x20, 0xff000, 0xfffffffffffffff0] && t.p == 1) = true ∧
  does [0o150123] (base |> State.setA 3 0x40 |> put 2 [1, 2, 0xff00, 0xffffffffffffffff] |> State.setVl 4)
    (fun t => firsts t 1 4 == [0, 0, 0, 0] && t.p == 1) = true ∧
  does [0o151123] (base |> State.setA 3 4 |> put 2 [1, 2, 0xff00, 0xffffffffffffffff] |> State.setVl 4)
    (fun t => firsts t 1 4 == [0, 0, 0xff0, 0xfffffffffffffff] && t.p == 1) = true ∧
  does [0o152123] (base |> State.setA 3 4 |> put 2 [1, 0xf000000000000000, 0x8000000000000000] |> State.setVl 3)
    (fun t => firsts t 1 3 == [0x1f, 8, 0] && t.p == 1) = true ∧
  does [0o153123] (base |> State.setA 3 4 |> put 2 [0xf, 1, 3] |> State.setVl 3)
    (fun t => firsts t 1 3 == [0, 0xf000000000000000, 0x1000000000000000] && t.p == 1) = true ∧
  does [0o154123] (base |> State.setS 2 0x4002800000000000 |> put 3 [0x4001800000000000, 0x4002c00000000000, 0] |> State.setVl 3)
    (fun t => firsts t 1 3 == [0x4002800000000000, 0x4003c00000000000, 0] && t.p == 1) = true ∧
  does [0o155123] (base |> put 2 [0x4002800000000000, 0xc001800000000000] |> put 3 [0x4002c00000000000, 0xc001800000000000] |> State.setVl 2)
    (fun t => firsts t 1 2 == [0x4003c00000000000, 0x4001800000000000] && t.p == 1) = true := by decide

/-- Codes 160 to 167: vectors of spec/96_derived_vectors.md. -/
theorem test_160_to_167 :
  does [0o160123] (base |> State.setS 2 1 |> put 3 [1, 2, 0xff00, 0xffffffffffffffff] |> State.setVl 4)
    (fun t => firsts t 1 4 == [2, 3, 0xff01, 0] && t.p == 1) = true ∧
  does [0o161123] (base |> put 2 [1, 2, 0xff00, 0xffffffffffffffff] |> put 3 [3, 3, 0xff0, 1] |> State.setVl 4)
    (fun t => firsts t 1 4 == [4, 5, 0x10ef0, 0] && t.p == 1) = true ∧
  does [0o162123] (base |> State.setS 2 0 |> put 3 [1, 2, 0xff00, 0xffffffffffffffff] |> State.setVl 4)
    (fun t => firsts t 1 4 == [0xffffffffffffffff, 0xfffffffffffffffe, 0xffffffffffff0100, 1] && t.p == 1) = true ∧
  does [0o163123] (base |> put 2 [1, 2, 0xff00, 0xffffffffffffffff] |> put 3 [3, 3, 0xff0, 1] |> State.setVl 4)
    (fun t => firsts t 1 4 == [0xfffffffffffffffe, 0xffffffffffffffff, 0xef10, 0xfffffffffffffffe] && t.p == 1) = true ∧
  does [0o163774] (base |> put 4 [1, 2, 0xff00, 0xffffffffffffffff] |> State.setVl 4)
    (fun t => firsts t 7 4 == [0xffffffffffffffff, 0xfffffffffffffffe, 0xffffffffffff0100, 1] && t.p == 1) = true ∧
  does [0o164120] (base |> put 2 [1, 2, 0xff00, 0xffffffffffffffff] |> State.setVl 4)
    (fun t => firsts t 1 4 == [1, 1, 8, 0x40] && t.p == 1) = true ∧
  does [0o164121] (base |> put 2 [1, 2, 0xff00, 0xffffffffffffffff] |> State.setVl 4)
    (fun t => firsts t 1 4 == [1, 1, 0, 0] && t.p == 1) = true ∧
  does [0o165120] (base |> put 2 [0, 1, 0xff00, 0xffffffffffffffff] |> State.setVl 4)
    (fun t => firsts t 1 4 == [0x40, 0x3f, 0x30, 0] && t.p == 1) = true := by decide

/-- Codes 170 to 177: vectors of spec/96_derived_vectors.md. -/
theorem test_170_to_177 :
  does [0o170123] (base |> State.setS 2 0x4001800000000000 |> put 3 [0x4001800000000000, 0xc001800000000000, 0] |> State.setVl 3)
    (fun t => firsts t 1 3 == [0x4002800000000000, 0, 0x4001800000000000] && t.p == 1) = true ∧
  does [0o170123] (base |> State.setS 2 0x4001800000000000 |> put 3 [0x4001800000000000, 0x6000800000000000] |> State.setVl 2 |> enables false true)
    (fun t => t.bps.fpError && decide (t.ended = some .haltedFp) && firsts t 1 1 == [0x4002800000000000] && t.bps.idleMode) = true ∧
  does [0o171123] (base |> put 2 [0x4002800000000000] |> put 3 [0x4003800000000000] |> State.setVl 1)
    (fun t => firsts t 1 1 == [0x4003c00000000000] && t.p == 1) = true ∧
  does [0o172123] (base |> State.setS 2 0x4001800000000000 |> put 3 [0x4001800000000000, 0xc001800000000000] |> State.setVl 2)
    (fun t => firsts t 1 2 == [0, 0x4002800000000000] && t.p == 1) = true ∧
  does [0o173123] (base |> put 2 [0x4003c00000000000] |> put 3 [0x4002800000000000] |> State.setVl 1)
    (fun t => firsts t 1 1 == [0x4003800000000000] && t.p == 1) = true ∧
  does [0o173556] (base |> put 6 [0x4002800000000000, 0xc002c00000000000, 0] |> State.setVl 3)
    (fun t => firsts t 5 3 == [0xc002800000000000, 0x4002c00000000000, 0] && t.p == 1) = true ∧
  does [0o174102] (base |> put 2 [0x4003c00000000000, 0xc001800000000000, 0] |> State.setVl 3)
    (fun t => firsts t 1 3 == [6, 0xffffffffffffffff, 0] && t.p == 1) = true ∧
  does [0o175102] (base |> put 2 [6, 0xfffffffffffffffd, 0] |> State.setVl 3)
    (fun t => firsts t 1 3 == [0x4003c00000000000, 0xc002c00000000000, 0] && t.p == 1) = true ∧
  does [0o176123] (base |> State.setS 2 0xa000000000000000 |> State.setS 3 4)
    (fun t => firsts t 1 2 == [0, 8] && t.p == 1) = true ∧
  does [0o176123] (base |> State.setS 2 0x4000000000000003 |> State.setS 3 3)
    (fun t => firsts t 1 3 == [3, 0xba, 0xbd] && t.p == 1) = true ∧
  does [0o177123] (base |> State.setS 2 0xc000000000000000 |> State.setS 3 0x700000005)
    (fun t => firsts t 1 2 == [0, 5] && t.p == 1) = true := by decide

/-! ## Further vectors -/

/-- A forced result has its signature exponent whatever its free bits are (R136; vectors of 120, 124, 132, 133). -/
theorem test_forced_exponents :
  (fadd 0x6000800000000000 0x4001800000000000).2 = true ∧ (fmul 0x5fff800000000000 0x5fff800000000000).2 = true ∧
  (recipApprox 0).2 = true ∧ (rsqrtApprox 0).2 = false ∧ (rsqrtApprox 0xc001800000000000).2 = true ∧
  (recipApprox 0x4002800000000000).2 = false := by decide

/-- The parcels of a word from its high end, and from its low end under `low_first` (R55). -/
theorem test_parcel_orders :
  (List.range 4).map (parcelIn .highFirst 0x0123456789abcdef) = [0x0123, 0x4567, 0x89ab, 0xcdef] ∧
  (List.range 4).map (parcelIn .lowFirst 0x0123456789abcdef) = [0xcdef, 0x89ab, 0x4567, 0x0123] := by decide

/-- The first step after reset with `a1 -1` placed at P does it (R186, log 5). -/
theorem test_withFetchWord :
  gives (step (State.reset.withFetchWord 16 0o027177)) (fun t => t.A 1 == 0xffffffff && t.p == 1) = true ∧
  gives (step (State.reset.withFetchWord 48 (0o042100 + 2 ^ 16 * 0o177777 + 2 ^ 32 * 0o177776)))
    (fun t => t.A 1 == 0xfffffffe && t.p == 3) = true ∧
  decodeTableWord 80 (0o053100 + 2 ^ 16 + 2 ^ 33 + 2 ^ 48 * 3 + 2 ^ 66) = some (.fullS 1 0x0001000200030004) := by
  decide

/-- Three parcels that straddle two words are fetched and done (R94, R95). -/
theorem test_straddling_step :
  gives (step (State.placeParcels [0o042100, 0o177777, 0o177776] 2 { base with p := 2 }))
    (fun t => t.A 1 == 0xfffffffe && t.p == 5) = true := by decide

/-- A store waits, a load of its address may be served with memory's old word or the new one, CMR ends the doubt (R71, R73). -/
theorem test_memory_order :
  gives (exec (.storeSAbs 1 3) (base |> State.setS 1 7)) (fun t => t.cm.read 515 == 0 && t.waiting 515 == [7]) = true ∧
  gives (exec (.storeSAbs 1 3) (base |> ordered |> State.setS 1 7))
    (fun t => t.cm.read 515 == 7 && t.waiting 515 == []) = true ∧
  gives (exec .cmr (base.storeWord 0 515 7)) (fun t => t.cm.read 515 == 7 && t.waiting 515 == []) = true := by decide

/-- Local Memory at its last word, and past it (R66). -/
theorem test_local_memory_edges :
  gives (exec (.loadSLmReg 1 2) (base |> State.setA 2 16383 |> State.lmWrite 16383 9)) (fun t => t.S 1 == 9) = true ∧
  gives (exec (.loadSLmReg 1 2) (base |> wrapping |> State.setA 2 16384 |> State.lmWrite 0 9)) (fun t => t.S 1 == 9) = true ∧
  exec (.loadSLmReg 1 2) (base |> State.setA 2 16384) = .fault .localMemoryAddress :=
  ⟨by decide, by decide, rfl⟩

/-- A vector source that is the destination (R131, R291): its old elements, zeros, or a refusal. -/
theorem test_overlap :
  gives (exec (.addVV 1 1 3) (base |> overlapBy .old |> put 1 [1] |> put 3 [3])) (fun t => t.V 1 0 == 4) = true ∧
  gives (exec (.addVV 1 1 3) (base |> overlapBy .zeros |> put 1 [1] |> put 3 [3])) (fun t => t.V 1 0 == 3) = true ∧
  gives (exec (.addVV 1 1 3) (base |> put 1 [1] |> put 3 [3])) (fun t => t.p == 1) = true ∧
  exec (.addVV 1 1 3) (base |> overlapBy .refuse) = .refused .vectorOverlap :=
  ⟨by decide, by decide, by decide, rfl⟩

/-- The iteration steps deliver the word of their function and, with the enable off, go on (R145, R147). -/
theorem test_iterations :
  (∃ t, exec (.recipIterS 1 2 3) base = .next t ∧ t.S 1 = (recipIter 0 0).1 ∧ t.p = 1) ∧
  ∃ t, exec (.rsqrtIterV 1 2 3) base = .next t ∧ t.V 1 0 = (rsqrtIter 0 0).1 ∧ t.p = 1 := by
  refine ⟨⟨_, rfl, ?_, ?_⟩, ⟨_, rfl, ?_, ?_⟩⟩ <;> simp [State.completeFp, base, Bps.reset, State.reset]
  · rfl
  · rfl

/-- The Shared registers with j of 2 or more on a machine that has them (R286). -/
theorem test_shared_number : exec (.incShared 3 2) (base |> shared) = .refused .sharedRegisterNumber := rfl

/-! ## Witnesses: every statement with hypotheses has a state and operands that meet them -/

/-- DecodeEncodeRoundTrip, EveryParcelDecodes: well-formed instructions, and codes with just enough and with too few parcels. -/
theorem witness_decoding :
  (Instr.addA 1 2 3).wf = true ∧ (Instr.fullS 7 0xffffffffffffffff).wf = true ∧ (Instr.jumpLink 0 7).wf = true ∧
  parcelCount (fieldF 0o053100) ≤ [(1 : Parcel), 2, 3, 4].length + 1 ∧
  [(1 : Parcel), 2, 3].length + 1 < parcelCount (fieldF 0o053100) := by decide

/-- A running processor with `a1 -2` in three parcels from P = 2, and `a1 a2+a3` after them. -/
def fetching : State := State.placeParcels [0o042100, 0o177777, 0o177776, 0o020123] 2 { base with p := 2 }

/-- StepRunsDecodedInstruction. -/
theorem witness_step : fetching.run = .running ∧ decode [0o042100, 0o177777, 0o177776] = .ok (.halfA 1 0xfffffffe, []) ∧
    ∀ (q : Nat) (h : q < [(0o042100 : Parcel), 0o177777, 0o177776].length),
      fetching.fetchParcel (fetching.p + BitVec.ofNat 32 q) =
        { parcel := [(0o042100 : Parcel), 0o177777, 0o177776][q], outOfField := false, missing := false, stale := false } := by
  refine ⟨rfl, by decide, fun q h => ?_⟩
  match q, h with
  | 0, _ => exact (show fetching.fetchParcel 2 = ⟨0o042100, false, false, false⟩ by decide)
  | 1, _ => exact (show fetching.fetchParcel 3 = ⟨0o177777, false, false, false⟩ by decide)
  | 2, _ => exact (show fetching.fetchParcel 4 = ⟨0o177776, false, false, false⟩ by decide)

/-- FetchIsRelocatedAndChecked: the first and the last parcel of the field, the parcel after them, an address below BA, either parcel order. -/
theorem witness_fetch :
  (512 = base.ba + BitVec.ofNat 32 ((0 : Addr).toNat / 4) ∧ InRange base 512) ∧
  (1023 = base.ba + BitVec.ofNat 32 ((2047 : Addr).toNat / 4) ∧ InRange base 1023) ∧
  (1024 = base.ba + BitVec.ofNat 32 ((2048 : Addr).toNat / 4) ∧ ¬ InRange base 1024) ∧
  (511 = (base.ba + 0xc0000000) + BitVec.ofNat 32 ((0xffffffff : Addr).toNat / 4) ∧ ¬ InRange base 511) ∧
  base.params.parcelOrder = .highFirst ∧
  { base with params := { base.params with parcelOrder := .lowFirst } }.params.parcelOrder = .lowFirst := by
  unfold InRange; decide

/-- FetchOutOfFieldEndsTheRun: P past the field, with the halt disabled and enabled. -/
theorem witness_fetch_out :
  ({ base with p := 2048 }.run = .running ∧
    ¬ InRange { base with p := 2048 } (512 + BitVec.ofNat 32 ((2048 : Addr).toNat / 4)) ∧
    { base with p := 2048 }.bps.rangeHaltEnable = false) ∧
  ({ base with p := 2048 } |> enables true false).run = .running ∧
  ¬ InRange ({ base with p := 2048 } |> enables true false) (512 + BitVec.ofNat 32 ((2048 : Addr).toNat / 4)) ∧
  ({ base with p := 2048 } |> enables true false).bps.rangeHaltEnable = true := by
  unfold InRange; decide

/-- The first parcel of `a1 exp` in the last parcel of the field, its constant parcels past it. -/
def lastParcel : State := State.placeParcels [0o042100] 2047 { base with p := 2047 }

/-- FetchOutOfFieldEndsTheRun: a constant parcel out of the field, with the halt disabled and enabled; and what the two steps do (R57, R347). -/
theorem witness_constant_out :
  (lastParcel.run = .running ∧ decode [0o042100, 0, 0] = .ok (.halfA 1 0, []) ∧
    (∀ (q : Nat) (h : q < [(0o042100 : Parcel), 0, 0].length),
      (lastParcel.fetchParcel (lastParcel.p + BitVec.ofNat 32 q)).parcel = [(0o042100 : Parcel), 0, 0][q] ∧
      (lastParcel.fetchParcel (lastParcel.p + BitVec.ofNat 32 q)).missing = false ∧
      (lastParcel.fetchParcel (lastParcel.p + BitVec.ofNat 32 q)).stale = false) ∧
    ∃ q, q < [(0o042100 : Parcel), 0, 0].length ∧
      ¬ InRange lastParcel (lastParcel.ba + BitVec.ofNat 32 ((lastParcel.p + BitVec.ofNat 32 q).toNat / 4))) ∧
  gives (step (lastParcel |> State.setA 1 7)) (fun t => t.A 1 == 0 && t.p == 2050 && t.bps.rangeError) = true ∧
  gives (step (lastParcel |> State.setA 1 7 |> enables true false))
    (fun t => t.A 1 == 7 && decide (t.ended = some .haltedRange) && t.bps.rangeError) = true := by
  have f0 : lastParcel.fetchParcel 2047 = ⟨0o042100, false, false, false⟩ := by decide
  have f1 : lastParcel.fetchParcel 2048 = ⟨0, true, false, false⟩ := by decide
  have f2 : lastParcel.fetchParcel 2049 = ⟨0, true, false, false⟩ := by decide
  refine ⟨⟨rfl, by decide, fun q h => ?_, 1, by decide, by unfold InRange; decide⟩, by decide, by decide⟩
  match q, h with
  | 0, _ =>
    rw [show lastParcel.p + BitVec.ofNat 32 0 = 2047 from rfl, f0]
    exact ⟨rfl, rfl, rfl⟩
  | 1, _ =>
    rw [show lastParcel.p + BitVec.ofNat 32 1 = 2048 from rfl, f1]
    exact ⟨rfl, rfl, rfl⟩
  | 2, _ =>
    rw [show lastParcel.p + BitVec.ofNat 32 2 = 2049 from rfl, f2]
    exact ⟨rfl, rfl, rfl⟩

/-- Three parcels from P = 3: the first in word 512, the constant in word 513, which is stored to. -/
def straddling : State := { State.placeParcels [0o042100, 1, 2] 3 { base with p := 3 } with dirty := [513] }

/-- IdleStepsAndStaleFetches: the parcel at P and a constant parcel in a word stored to. -/
theorem witness_idle_and_stale : State.reset.run = .idle ∧
    ({ base with dirty := [512] }.run = .running ∧
      0 < parcelCount (fieldF ({ base with dirty := [512] }.fetchParcel { base with dirty := [512] }.p).parcel) ∧
      ({ base with dirty := [512] }.fetchParcel ({ base with dirty := [512] }.p + BitVec.ofNat 32 0)).stale = true) ∧
    straddling.run = .running ∧ 1 < parcelCount (fieldF (straddling.fetchParcel straddling.p).parcel) ∧
    (straddling.fetchParcel (straddling.p + BitVec.ofNat 32 0)).stale = false ∧
    (straddling.fetchParcel (straddling.p + BitVec.ofNat 32 1)).stale = true := by decide

/-- The invariant of the running processor of the vectors. -/
theorem base_invariant : Invariant base :=
  ⟨by decide, by decide, by simp [base, State.reset, Port.empty], by decide, by decide, by decide, by decide⟩

/-- EveryStepKeepsTheInvariant, FieldAndAssignmentAreFixed: a step from a state with the invariant. -/
theorem witness_invariant : Invariant base ∧ ∃ t, step base = .next t := ⟨base_invariant, _, rfl⟩

/-- A launch record with the last word of the field in its image. -/
def record : LaunchRecord :=
  { ba := 512, la := 1024, p0 := 2044, semSelect := 3, sem0 := true, rangeHalt0 := true, fpEnable0 := false,
    image := [(0, 5), (511, 0x7c007c007c007c00)], sr0 := Vector.replicate 8 0 }

/-- LaunchStartsAComputationPeriod: an idle processor after an exit, and a running one. -/
theorem witness_launch : Invariant (base.stop (.exited 4) 1) ∧ (base.stop (.exited 4) 1).run = .idle ∧
    record.wellFormed (base.stop (.exited 4) 1).params = true ∧
    record.image.Pairwise (fun c d => c.1 ≠ d.1) ∧ (∀ c ∈ record.image, record.ba.toNat + c.1 ≠ 513) ∧
    (2 : Reg) ≠ record.semSelect ∧ base.run = .running :=
  ⟨⟨by decide, by decide, by simp [State.stop, State.quiesce, Port.empty], by decide, by decide, by decide, by decide⟩,
    rfl, by decide, by decide, by decide, by decide, rfl⟩

/-- A launch takes the idle processor to running at the record's P and leaves a running one alone (R352, R353). -/
theorem test_launch : (State.reset.launch record).p = 2044 ∧ (State.reset.launch record).run = .running ∧
    (State.reset.launch record).ba = 512 ∧ base.launch { record with ba := 600 } = base :=
  ⟨rfl, rfl, rfl, rfl⟩

/-- WhoWritesTheVectorControls: each clause. -/
theorem witness_vector_controls :
  (∃ t, exec (.moveAVl 4) (base |> State.setA 4 5) = .next t ∧ t.vl ≠ (base |> State.setA 4 5).vl) ∧
  (∃ t, exec (.vmZero 1) base = .next t ∧ t.vm ≠ base.vm) ∧
  ∃ t, exec (.moveSVm 2) (base |> State.setS 2 1) = .next t ∧ t.vm ≠ (base |> State.setS 2 1).vm :=
  ⟨⟨_, rfl, by decide⟩, ⟨_, rfl, by decide⟩, ⟨_, rfl, by decide⟩⟩

/-- WhoWritesTheStatusRegister: each clause, idle mode by an exit, a range halt and a floating-point halt. -/
theorem witness_status :
  (∃ t, exec (.exitExp 4) base = .next t ∧ t.bps.exitCode ≠ base.bps.exitCode ∧ t.bps.idleMode ≠ base.bps.idleMode) ∧
  (∃ t, exec .eri base = .next t ∧ t.bps.rangeHaltEnable ≠ base.bps.rangeHaltEnable) ∧
  (∃ t, exec .efi base = .next t ∧ t.bps.fpEnable ≠ base.bps.fpEnable) ∧
  (∃ t, exec .ssm base = .next t ∧ t.bps.semBit ≠ base.bps.semBit) ∧
  (∃ t, exec (.loadSAbs 1 512) (base |> enables true false) = .next t ∧
    t.bps.rangeError ≠ (base |> enables true false).bps.rangeError ∧
    t.bps.idleMode ≠ (base |> enables true false).bps.idleMode) ∧
  ∃ t, exec (.recipS 1 2) (base |> enables false true) = .next t ∧
    t.bps.fpError ≠ (base |> enables false true).bps.fpError ∧
    t.bps.idleMode ≠ (base |> enables false true).bps.idleMode :=
  ⟨⟨_, rfl, by decide⟩, ⟨_, rfl, by decide⟩, ⟨_, rfl, by decide⟩, ⟨_, rfl, by decide⟩, ⟨_, rfl, by decide⟩,
    ⟨_, rfl, by decide⟩⟩

/-- HowAComputationPeriodEnds: an exit, a range halt, a floating-point halt. -/
theorem witness_ends :
  (base.run = .running ∧ ∃ t, exec (.exitExp 4) base = .next t ∧ t.run = .idle) ∧
  ((base |> enables true false).run = .running ∧
    ∃ t, exec (.loadSAbs 1 512) (base |> enables true false) = .next t ∧ t.run = .idle) ∧
  (base |> enables false true).run = .running ∧
  ∃ t, exec (.recipS 1 2) (base |> enables false true) = .next t ∧ t.run = .idle :=
  ⟨⟨rfl, _, rfl, by decide⟩, ⟨rfl, _, rfl, by decide⟩, rfl, _, rfl, by decide⟩

/-- WhoWritesTheMemories: a Local Memory store, a waiting store of the value already in memory, a store complete under program order. -/
theorem witness_memories :
  (∃ t, exec (.storeALm 1 3) (base |> State.setA 1 5) = .next t ∧
    ∃ a, t.lm.read a ≠ (base |> State.setA 1 5).lm.read a) ∧
  (∃ t, exec (.storeSAbs 1 3) base = .next t ∧ (∃ a, t.waiting a ≠ base.waiting a ∧ t.waiting a ≠ []) ∧
    t.dirty ≠ base.dirty) ∧
  ∃ t, exec (.storeSAbs 1 3) (base |> ordered |> State.setS 1 5) = .next t ∧
    ∃ a, t.cm.read a ∉ (base |> ordered |> State.setS 1 5).waiting a ∧
      t.cm.read a ≠ (base |> ordered |> State.setS 1 5).cm.read a :=
  ⟨⟨_, rfl, 3, by decide⟩, ⟨_, rfl, ⟨515, by decide⟩, by decide⟩, _, rfl, 515, by decide⟩

/-- ExitStopsWithItsCode: the three forms. -/
theorem witness_exit :
  (Instr.exitExp 63 = .exitExp 63 ∨ (Instr.exitExp 63 = .err ∧ (63 : BitVec 6) = 0) ∨
    (Instr.exitExp 63 = .exit ∧ (63 : BitVec 6) = 1)) ∧
  (Instr.err = .exitExp 0 ∨ (Instr.err = .err ∧ (0 : BitVec 6) = 0) ∨ (Instr.err = .exit ∧ (0 : BitVec 6) = 1)) ∧
  (Instr.exit = .exitExp 1 ∨ (Instr.exit = .err ∧ (1 : BitVec 6) = 0) ∨ (Instr.exit = .exit ∧ (1 : BitVec 6) = 1)) := by
  decide

/-- The A registers of the four forms of a scalar reference to the last word of the field. -/
def scalarForms : State := base |> State.setA 2 500 |> State.setA 3 11 |> State.setA 4 511 |> State.setA 5 0x200

/-- StoreHoldLoadReturnsTheStoredWord: a store and a load of each form, at one address. -/
theorem witness_store_load :
  (ScalarStore scalarForms (.storeSSum 1 2 3) 1 1023 ∧ ScalarStore scalarForms (.storeSReg 1 4) 1 1023 ∧
    ScalarStore scalarForms (.storeSDisp 1 5 0xffffffff) 1 1023 ∧ ScalarStore scalarForms (.storeSAbs 1 511) 1 1023) ∧
  (ScalarLoad scalarForms (.loadSSum 6 2 3) 6 1023 ∧ ScalarLoad scalarForms (.loadSReg 6 4) 6 1023 ∧
    ScalarLoad scalarForms (.loadSDisp 6 5 0xffffffff) 6 1023 ∧ ScalarLoad scalarForms (.loadSAbs 6 511) 6 1023) ∧
  Installed scalarForms 1023 ∧ scalarForms.waiting (1023 : Addr).toNat = [] :=
  ⟨⟨.inl ⟨2, 3, rfl, by decide⟩, .inr (.inl ⟨4, rfl, by decide⟩), .inr (.inr (.inl ⟨5, _, rfl, by decide⟩)),
      .inr (.inr (.inr ⟨_, rfl, by decide⟩))⟩,
    ⟨.inl ⟨2, 3, rfl, by decide⟩, .inr (.inl ⟨4, rfl, by decide⟩), .inr (.inr (.inl ⟨5, _, rfl, by decide⟩)),
      .inr (.inr (.inr ⟨_, rfl, by decide⟩))⟩, by unfold Installed InRange; decide, rfl⟩

/-- CommonMemoryLoads, CommonMemoryStores: the first and the last word of the field, by each form of address. -/
theorem witness_common_memory :
  (Installed base (base.ba + 0) ∧ base.waiting (base.ba + 0).toNat = []) ∧
  (Installed base (base.ba + 511) ∧ base.waiting (base.ba + 511).toNat = []) ∧
  Installed (base |> State.setA 2 500 |> State.setA 3 11) (512 + ((500 : Addr) + 11)) ∧
  Installed (base |> State.setA 2 511) (base.ba + (base |> State.setA 2 511).A 2) ∧
  Installed (base |> State.setA 2 0x20) (base.ba + ((base |> State.setA 2 0x20).A 2 + 0xffffffff)) := by
  unfold Installed InRange; decide

/-- A field that reaches beyond the installed 2^28 words, with P, A2 and A3 at and about its first address without storage. -/
def beyond : State :=
  { base with la := 0xffffffff, p := 0x3ffff800 } |> State.setA 2 0x0fffffff |> State.setA 3 1 |> State.setVl 2

/-- ReferencesBeyondInstalledMemoryFault: the first address without storage, by a store, a load, the second of two elements, and a fetch. -/
theorem witness_beyond :
  ScalarStore beyond (.storeSAbs 1 0x0ffffe00) 1 0x10000000 ∧ ScalarLoad beyond (.loadSAbs 1 0x0ffffe00) 1 0x10000000 ∧
  (InRange beyond 0x10000000 ∧ beyond.params.cmWords ≤ (0x10000000 : Addr).toNat) ∧
  (VectorReference beyond (.loadVStride 1 2 3) 1 (fun e => beyond.ba + (beyond.A 2 + BitVec.ofNat 32 e.val * beyond.A 3)) ∧
    (1 : Elem).val < beyond.vlen ∧ InRange beyond (beyond.ba + (beyond.A 2 + BitVec.ofNat 32 1 * beyond.A 3)) ∧
    beyond.params.cmWords ≤ (beyond.ba + (beyond.A 2 + BitVec.ofNat 32 1 * beyond.A 3)).toNat) ∧
  beyond.run = .running ∧ 0 < parcelCount (fieldF (beyond.fetchParcel beyond.p).parcel) ∧
  (∀ r, r < parcelCount (fieldF (beyond.fetchParcel beyond.p).parcel) →
    (beyond.fetchParcel (beyond.p + BitVec.ofNat 32 r)).stale = false) ∧
  (beyond.fetchParcel (beyond.p + BitVec.ofNat 32 0)).missing = true :=
  ⟨.inr (.inr (.inr ⟨_, rfl, by decide⟩)), .inr (.inr (.inr ⟨_, rfl, by decide⟩)), by unfold InRange; decide,
    ⟨.inl ⟨2, 3, .inl rfl, fun _ => rfl⟩, by decide, by unfold InRange; decide, by decide⟩, rfl, by decide, by decide,
    by decide⟩

/-- CommonMemoryLoads, CommonMemoryStores: an address for which a write waits, and an outstanding read of it. -/
theorem witness_waiting :
  Installed (base.storeWord 0 515 7) (base.ba + 3) ∧ (base.storeWord 0 515 7).waiting (base.ba + 3).toNat ≠ [] ∧
  Installed (base.noteRead 515 (.s 1)) (base.ba + 3) ∧ AwaitingLoc (base.noteRead 515 (.s 1)) 515 (.s 1) := by
  refine ⟨by unfold Installed InRange; decide, by decide, by unfold Installed InRange; decide, ?_⟩
  exact ⟨{ addr := 515, dest := .s 1 }, by decide, rfl, rfl⟩

/-- ScalarReferenceOutOfField: the limit address and an address below BA, with the halt disabled and enabled. -/
theorem witness_scalar_out :
  (¬ InRange base (base.ba + 512) ∧ base.bps.rangeHaltEnable = false) ∧
  (¬ InRange base (base.ba + 0xffffffff) ∧ base.bps.rangeHaltEnable = false) ∧
  (¬ InRange (base |> enables true false) (base.ba + 512) ∧ (base |> enables true false).bps.rangeHaltEnable = true) ∧
  ¬ InRange (base |> State.setA 2 511 |> State.setA 3 1) (512 + ((511 : Addr) + 1)) ∧
  ¬ InRange (base |> State.setA 2 512) (base.ba + (base |> State.setA 2 512).A 2) := by
  unfold InRange; decide

/-- The element addresses of a strided reference of two elements from the last word of the field: the second is out of it. -/
def edge : State := base |> State.setA 2 511 |> State.setA 3 1 |> State.setVl 2

/-- The element addresses of a strided reference within the field. -/
def inside : State := base |> State.setA 2 0x40 |> State.setA 3 2 |> State.setVl 3

/-- VectorLoadsFromCommonMemory, VectorStoresToCommonMemory: strided, every element in the field and, with the halt disabled, one out of it. -/
theorem witness_strided :
  ((∀ e : Elem, e.val < inside.vlen → InRange inside (inside.cmAbs (inside.strideAddr 2 3 e)) →
      (inside.cmAbs (inside.strideAddr 2 3 e)).toNat < inside.params.cmWords) ∧
    ∀ e : Elem, e.val < inside.vlen → InRange inside (inside.cmAbs (inside.strideAddr 2 3 e))) ∧
  (∀ e : Elem, e.val < edge.vlen → InRange edge (edge.cmAbs (edge.strideAddr 2 3 e)) →
      (edge.cmAbs (edge.strideAddr 2 3 e)).toNat < edge.params.cmWords) ∧
  edge.bps.rangeHaltEnable = false ∧ InRange edge (edge.cmAbs (edge.strideAddr 2 3 0)) ∧
  ¬ InRange edge (edge.cmAbs (edge.strideAddr 2 3 1)) := by
  unfold InRange; decide

/-- A gather or scatter of two elements by the offsets of V3: the last word of the field and the word after it. -/
def indexed : State := base |> State.setA 2 511 |> put 3 [0xffffffff00000000, 1] |> State.setVl 2

/-- VectorLoadsFromCommonMemory, VectorStoresToCommonMemory: indexed, with i and j different and, for the gather, equal. -/
theorem witness_indexed :
  (∀ e : Elem, e.val < indexed.vlen → InRange indexed (indexed.ba + (indexed.A 2 + BitVec.ofNat 32 (indexed.stream 1 3 e).toNat)) →
      (indexed.ba + (indexed.A 2 + BitVec.ofNat 32 (indexed.stream 1 3 e).toNat)).toNat < indexed.params.cmWords) ∧
  indexed.bps.rangeHaltEnable = false ∧
  InRange indexed (indexed.ba + (indexed.A 2 + BitVec.ofNat 32 (indexed.V 3 0).toNat)) ∧
  ¬ InRange indexed (indexed.ba + (indexed.A 2 + BitVec.ofNat 32 (indexed.V 3 1).toNat)) ∧
  (indexed |> overlapBy .old).params.vSrcEqDst ≠ .refuse ∧
  InRange (indexed |> overlapBy .old)
    ((indexed |> overlapBy .old).ba + ((indexed |> overlapBy .old).A 2 +
      BitVec.ofNat 32 ((indexed |> overlapBy .old).stream 3 3 0).toNat)) := by
  unfold InRange; decide

/-- The reference of `edge` with the halt enabled. -/
def edgeHalt : State := edge |> enables true false

/-- The reference of `indexed` with the halt enabled. -/
def indexedHalt : State := indexed |> enables true false

/-- VectorReferenceOutOfFieldHalts: 070 and 071, with the second element at the limit address and the halt enabled. -/
theorem witness_strided_halt :
  (∀ e : Elem, e.val < edgeHalt.vlen → InRange edgeHalt (edgeHalt.ba + (edgeHalt.A 2 + BitVec.ofNat 32 e.val * edgeHalt.A 3)) →
    (edgeHalt.ba + (edgeHalt.A 2 + BitVec.ofNat 32 e.val * edgeHalt.A 3)).toNat < edgeHalt.params.cmWords) ∧
  edgeHalt.bps.rangeHaltEnable = true ∧
  ∃ e : Elem, e.val < edgeHalt.vlen ∧ ¬ InRange edgeHalt (edgeHalt.ba + (edgeHalt.A 2 + BitVec.ofNat 32 e.val * edgeHalt.A 3)) := by
  unfold InRange; exact ⟨by decide, by decide, 1, by decide⟩

/-- VectorReferenceOutOfFieldHalts: 072 (by the stream) and 073 (by the elements), likewise. -/
theorem witness_indexed_halt :
  indexedHalt.params.vSrcEqDst ≠ .refuse ∧
  (∀ e : Elem, e.val < indexedHalt.vlen → InRange indexedHalt (indexedHalt.ba + (indexedHalt.A 2 + BitVec.ofNat 32 (indexedHalt.stream 1 3 e).toNat)) →
    (indexedHalt.ba + (indexedHalt.A 2 + BitVec.ofNat 32 (indexedHalt.stream 1 3 e).toNat)).toNat < indexedHalt.params.cmWords) ∧
  (∀ e : Elem, e.val < indexedHalt.vlen → InRange indexedHalt (indexedHalt.ba + (indexedHalt.A 2 + BitVec.ofNat 32 (indexedHalt.V 3 e).toNat)) →
    (indexedHalt.ba + (indexedHalt.A 2 + BitVec.ofNat 32 (indexedHalt.V 3 e).toNat)).toNat < indexedHalt.params.cmWords) ∧
  indexedHalt.bps.rangeHaltEnable = true ∧
  (∃ e : Elem, e.val < indexedHalt.vlen ∧ ¬ InRange indexedHalt (indexedHalt.ba + (indexedHalt.A 2 + BitVec.ofNat 32 (indexedHalt.stream 1 3 e).toNat))) ∧
  ∃ e : Elem, e.val < indexedHalt.vlen ∧ ¬ InRange indexedHalt (indexedHalt.ba + (indexedHalt.A 2 + BitVec.ofNat 32 (indexedHalt.V 3 e).toNat)) := by
  unfold InRange; exact ⟨by decide, by decide, by decide, by decide, ⟨1, by decide⟩, 1, by decide⟩

/-- LocalMemoryLoads, LocalMemoryStores: the first word, the last word, and the word that 16384 wraps to. -/
theorem witness_local_memory :
  LmPlace base (parcelConst 0) 0 ∧ LmPlace base (parcelConst 0x3fff) 16383 ∧
  LmPlace (base |> wrapping) (parcelConst 0x4000) 0 ∧
  LmPlace (base |> State.setA 2 16383) ((base |> State.setA 2 16383).A 2) 16383 ∧
  LmPlace (base |> wrapping |> State.setA 2 0xffffffff) ((base |> wrapping |> State.setA 2 0xffffffff).A 2) 16383 := by
  unfold LmPlace; decide

/-- LocalMemoryVectorReferences: two elements up to the last word, and two that wrap from it to the first. -/
theorem witness_local_memory_vector :
  (∀ e : Elem, e.val < (base |> State.setVl 2).vlen →
    LmPlace (base |> State.setVl 2) (16382 + BitVec.ofNat 32 e.val) (16382 + e.val)) ∧
  ∀ e : Elem, e.val < (base |> wrapping |> State.setVl 2).vlen →
    LmPlace (base |> wrapping |> State.setVl 2) (16383 + BitVec.ofNat 32 e.val) ((16383 + e.val) % 16384) := by
  unfold LmPlace; decide

/-- BadLocalMemoryAddressFaults: the first address past Local Memory, as a constant, in a register, and as the second element. -/
theorem witness_local_memory_fault :
  LmNowhere base (parcelConst 0x4000) ∧ LmNowhere (base |> State.setA 2 16384) ((base |> State.setA 2 16384).A 2) ∧
  (1 : Elem).val < (base |> State.setVl 2).vlen ∧ LmNowhere (base |> State.setVl 2) (16383 + BitVec.ofNat 32 1) := by
  unfold LmNowhere; decide

/-- PassesOnlyAdvance, SharedRegistersAreReached: both machines, j at the ends of each clause. -/
theorem witness_shared :
  base.params.hasSharedRegs = false ∧ (base |> shared).params.hasSharedRegs = true ∧
  (0 : Reg).val < 2 ∧ (1 : Reg).val < 2 ∧ 2 ≤ (2 : Reg).val ∧ 2 ≤ (7 : Reg).val := by decide

/-- SemaphoreIsTestedAndSet: the flag clear and set. -/
theorem witness_semaphore :
  false = (base |> flag false).sem.get (base |> flag false).bps.semSelect ∧
  true = (base |> flag true).sem.get (base |> flag true).bps.semSelect := by decide

/-- ScalarFloatingPointResults, VectorFloatingPointResults: a result without an error, an error with the enable off and on, and in one element of two. -/
theorem witness_floating_results :
  (fadd (base.S 1) (base.S 2)).2 = false ∧ ((recipApprox (base.S 1)).2 = true ∧ base.bps.fpEnable = false) ∧
  ((recipApprox ((base |> enables false true).S 1)).2 = true ∧ (base |> enables false true).bps.fpEnable = true) ∧
  (∃ e : Elem, e.val < (base |> enables false true |> State.setVl 2).vlen ∧
    (recipApprox ((base |> enables false true |> State.setVl 2).stream 1 2 e)).2 = true) ∧
  (∀ e : Elem, e.val < (base |> State.setVl 2).vlen → (flt ((base |> State.setVl 2).stream 1 2 e)).2 = false) ∧
  base.params.vSrcEqDst ≠ .refuse :=
  ⟨by decide, by decide, by decide, ⟨1, by decide⟩, by decide, by decide⟩

/-- FloatingSumsAreExactWhereRepresentable: 1 + 1 = 2, 1 - 1/2 = 1/2, sums of value zero. -/
theorem witness_floating_sums :
  (fpOverflow 0x4001800000000000 = false ∧ FpRegular 0x4002800000000000 ∧
    fpValue 0x4001800000000000 + fpValue 0x4001800000000000 = fpValue 0x4002800000000000) ∧
  (FpRegular 0x4000800000000000 ∧
    fpValue 0x4001800000000000 - fpValue 0x4000800000000000 = fpValue 0x4000800000000000) ∧
  fpValue 0x4001800000000000 + fpValue 0xc001800000000000 = 0 ∧ fpValue 0x1fff800000000000 - fpValue 0 = 0 := by
  have one : fpValue 0x4001800000000000 = 1 := by
    rw [fpValue, show fpUnderflow 0x4001800000000000 = false by decide, show fpSign 0x4001800000000000 = false by decide,
      show fpCoef 0x4001800000000000 = 2 ^ 47 by decide, show fpExp 0x4001800000000000 = 0o40001 by decide]
    norm_num
  have minus : fpValue 0xc001800000000000 = -1 := by
    rw [fpValue, show fpUnderflow 0xc001800000000000 = false by decide, show fpSign 0xc001800000000000 = true by decide,
      show fpCoef 0xc001800000000000 = 2 ^ 47 by decide, show fpExp 0xc001800000000000 = 0o40001 by decide]
    norm_num
  have two : fpValue 0x4002800000000000 = 2 := by
    rw [fpValue, show fpUnderflow 0x4002800000000000 = false by decide, show fpSign 0x4002800000000000 = false by decide,
      show fpCoef 0x4002800000000000 = 2 ^ 47 by decide, show fpExp 0x4002800000000000 = 0o40002 by decide]
    norm_num
  have half : fpValue 0x4000800000000000 = 1 / 2 := by
    rw [fpValue, show fpUnderflow 0x4000800000000000 = false by decide, show fpSign 0x4000800000000000 = false by decide,
      show fpCoef 0x4000800000000000 = 2 ^ 47 by decide, show fpExp 0x4000800000000000 = 0o40000 by decide]
    norm_num
  have tiny : fpValue 0x1fff800000000000 = 0 := by
    rw [fpValue, show fpUnderflow 0x1fff800000000000 = true by decide]; rfl
  have zero : fpValue 0 = 0 := by rw [fpValue, show fpUnderflow 0 = true by decide]; rfl
  refine ⟨⟨by decide, by unfold FpRegular; decide, ?_⟩, ⟨by unfold FpRegular; decide, ?_⟩, ?_, ?_⟩
  · rw [one, two]; norm_num
  · rw [one, half]; norm_num
  · rw [one, minus]; norm_num
  · rw [tiny, zero]; norm_num

/-- FloatingAddOverflowIsForced, ApproximationSpecialCases: operands of each class, at the edges. -/
theorem witness_classes :
  fpOverflow 0x6000800000000000 = true ∧ fpOverflow 0x5fffffffffffffff = false ∧ fpUnderflow 0x1fff800000000000 = true ∧
  fpUnderflow 0x2000800000000000 = false ∧ fpExp 0x0003ffffffffffff ≤ 3 ∧ 3 < fpExp 0x8004000000000000 ∧
  fpSign 0x8004000000000000 = true ∧ fpSign 0x2000800000000000 = false := by decide

/-- FixAndFloatAreExactOnIntegers: the integers at the ends, 1 as a word, overflow. -/
theorem witness_fix :
  (-2 ^ 47 ≤ (-2 ^ 47 : Int) ∧ (-2 ^ 47 : Int) < 2 ^ 47) ∧ (-2 ^ 47 ≤ (2 ^ 47 - 1 : Int) ∧ (2 ^ 47 - 1 : Int) < 2 ^ 47) ∧
  (fpOverflow 0x4001800000000000 = false ∧ |(1 : Int)| < 2 ^ 47 ∧ fpValue 0x4001800000000000 = (1 : Int)) ∧
  fpOverflow 0x6000800000000000 = true ∧ (2 : ℚ) ^ 48 ≤ |fpValue 0x4031800000000000| := by
  refine ⟨by norm_num, by norm_num, ⟨by decide, by norm_num, ?_⟩, by decide, ?_⟩
  · rw [fpValue, show fpUnderflow 0x4001800000000000 = false by decide, show fpSign 0x4001800000000000 = false by decide,
      show fpCoef 0x4001800000000000 = 2 ^ 47 by decide, show fpExp 0x4001800000000000 = 0o40001 by decide]
    norm_num
  · rw [fpValue, show fpUnderflow 0x4031800000000000 = false by decide, show fpSign 0x4031800000000000 = false by decide,
      show fpCoef 0x4031800000000000 = 2 ^ 47 by decide, show fpExp 0x4031800000000000 = 0o40061 by decide]
    norm_num

/-- FloatingProducts: each clause, the exponent sums at their edges, 1 * 1 = 1, and 3/4 * 3/4 at the least exponent sum. -/
theorem witness_products :
  0o120000 < fpExp 0x5fff800000000000 + fpExp 0x4002800000000000 ∧
  (fpExp 0x0000800000000000 = 0 ∧ 2 ^ 48 ∣ fpCoef 0x0000800000000000 * fpCoef 0x0000000000000002) ∧
  (fpOverflow 0x3fff800000000000 = false ∧ ¬ (fpExp 0x3fff800000000000 = 0 ∧ fpExp 0x2000800000000000 = 0) ∧
    fpExp 0x3fff800000000000 + fpExp 0x2000800000000000 < 0o60000) ∧
  (fpExp 0x5fffc00000000000 + fpExp 0x4001c00000000000 = 0o120000 ∧
    2 ^ 95 ≤ fpCoef 0x5fffc00000000000 * fpCoef 0x4001c00000000000) ∧
  (FpRegular 0x4001800000000000 ∧ 0o60000 < fpExp 0x4001800000000000 + fpExp 0x4001800000000000 ∧
    fpExp 0x4001800000000000 + fpExp 0x4001800000000000 < 0o120000 ∧
    fpValue 0x4001800000000000 * fpValue 0x4001800000000000 = fpValue 0x4001800000000000) ∧
  FpRegular 0x2000c00000000000 ∧ FpRegular 0x4000c00000000000 ∧ FpRegular 0x2000900000000000 ∧
  (fpExp 0x2000c00000000000 + fpExp 0x4000c00000000000 = 0o60000 ∧
    2 ^ 95 ≤ fpCoef 0x2000c00000000000 * fpCoef 0x4000c00000000000) ∧
  fpExp 0x2000c00000000000 + fpExp 0x4000c00000000000 < 0o120000 ∧
  fpValue 0x2000c00000000000 * fpValue 0x4000c00000000000 = fpValue 0x2000900000000000 := by
  refine ⟨by decide, by decide, by decide, by decide, ⟨by unfold FpRegular; decide, by decide, by decide, ?_⟩,
    by unfold FpRegular; decide, by unfold FpRegular; decide, by unfold FpRegular; decide, by decide, by decide, ?_⟩
  · rw [fpValue, show fpUnderflow 0x4001800000000000 = false by decide, show fpSign 0x4001800000000000 = false by decide,
      show fpCoef 0x4001800000000000 = 2 ^ 47 by decide, show fpExp 0x4001800000000000 = 0o40001 by decide]
    norm_num
  · rw [fpValue, fpValue, fpValue,
      show fpUnderflow 0x2000c00000000000 = false by decide, show fpSign 0x2000c00000000000 = false by decide,
      show fpCoef 0x2000c00000000000 = 3 * 2 ^ 46 by decide, show fpExp 0x2000c00000000000 = 0o20000 by decide,
      show fpUnderflow 0x4000c00000000000 = false by decide, show fpSign 0x4000c00000000000 = false by decide,
      show fpCoef 0x4000c00000000000 = 3 * 2 ^ 46 by decide, show fpExp 0x4000c00000000000 = 0o40000 by decide,
      show fpUnderflow 0x2000900000000000 = false by decide, show fpSign 0x2000900000000000 = false by decide,
      show fpCoef 0x2000900000000000 = 9 * 2 ^ 44 by decide, show fpExp 0x2000900000000000 = 0o20000 by decide]
    generalize (2 : ℚ) ^ (((0o20000 : ℕ) : ℤ) - 0o40000) = w
    norm_num
    ring

/-- The rows of the table of R7 (spec/00_scope.md): words, banks, processors, and what the serial number decides. -/
theorem test_parameters :
  [Model.m4x256, .m4x512, .s4x128, .s2x128, .s2x64].map (fun m => (m.row.numBp, m.row.cmBanks, m.row.cmWords / 2 ^ 20)) =
    [(4, 128, 256), (4, 128, 512), (4, 128, 128), (2, 128, 128), (2, 64, 64)] ∧
  [Model.m4x256, .m4x512, .s4x128, .s2x128, .s2x64].map (·.row.cmKind) =
    [.dynamic, .dynamic, .static, .static, .static] ∧
  ({ Params.default with serial := .sn2025 }.hasSharedRegs = true ∧
    { Params.default with serial := .sn2025 }.hasTailgating = true ∧
    { Params.default with serial := .sn2027AndAbove }.hasSharedRegs = false ∧
    { Params.default with serial := .sn2027AndAbove }.hasTailgating = true ∧ Params.default.hasTailgating = false) := by
  decide

/-- The statements about vector instructions: designators apart, designators equal with `V_SRC_EQ_DST` not refuse, and refuse. -/
theorem witness_overlap :
  (((1 : Reg) = 3 → base.params.vSrcEqDst ≠ .refuse) ∧ ((1 : Reg) = 2 → base.params.vSrcEqDst ≠ .refuse)) ∧
  (((1 : Reg) = 1 → (base |> overlapBy .old).params.vSrcEqDst ≠ .refuse)) ∧
  (((1 : Reg) = 2 ∨ (1 : Reg) = 3 → (base |> overlapBy .refuse).params.vSrcEqDst ≠ .refuse)) ∧
  (base |> overlapBy .zeros).params.vSrcEqDst = .zeros ∧ (base |> overlapBy .old).params.vSrcEqDst = .old ∧
  (base |> overlapBy .refuse).params.vSrcEqDst = .refuse := by decide

/-- VectorMergesAndShifts: the elements after and before, as functions that meet the clauses on 152 and 153. -/
theorem witness_neighbours :
  (∃ next : Elem → Nat, (∀ e f : Elem, f.val = e.val + 1 →
    next e = if f.val < base.vlen then (base.stream 1 2 f).toNat else 0) ∧ next 63 = 0) ∧
  ∃ prev : Elem → Nat, (∀ e f : Elem, e.val = f.val + 1 → prev e = (base.stream 1 2 f).toNat) ∧ prev 0 = 0 := by
  have h : ∀ f : Elem, (base.stream 1 2 f).toNat = 0 := by decide
  refine ⟨⟨fun _ => 0, fun e f _ => ?_, rfl⟩, fun _ => 0, fun e f _ => (h f).symm, rfl⟩
  rw [h]; simp

/-- CompressedIota: the mask 0x4000000000000003, whose second 1 bit is at position 62, with stride 3. -/
theorem witness_iota :
  (0x4000000000000003 : Word).getLsbD (63 - (62 : Fin 64).val) = true ∧
  (1 : Fin 64).val = (Finset.univ.filter fun q : Fin 64 =>
    q < 62 ∧ (0x4000000000000003 : Word).getLsbD (63 - q.val) = true).card ∧
  63 * (BitVec.ofNat 32 (3 : Word).toNat).toNat < 2 ^ 32 := by decide

/-- UndescribedSubcodesAreRefused: the sub-codes at the ends. -/
theorem witness_subcodes : 4 ≤ (4 : Reg).val ∧ 4 ≤ (7 : Reg).val ∧ 2 ≤ (2 : Reg).val ∧ 2 ≤ (7 : Reg).val := by decide

end Sys2Proof.Tests
end

section
/-! What one instruction can do to the state, said once: `exec_effect` sorts every next state by the shared operation that made it. The statements about who writes what, and the invariant, are read off its cases. -/

namespace Sys2Proof.Machine

/-- The stores to Local Memory: 045, 047, 055, 057 and 075. -/
def LmStore (x : Instr) : Prop :=
  (∃ k m, x = .storeALm k m) ∨ (∃ j k, x = .storeALmReg j k) ∨ (∃ j m, x = .storeSLm j m) ∨
    (∃ n k, x = .storeSLmReg n k) ∨ ∃ n k, x = .storeVLm n k

/-- The instructions that write the vector mask: 030 to 034. -/
def MaskInstr (x : Instr) : Prop :=
  ∃ n, x = .vmZero n ∨ x = .vmNonzero n ∨ x = .vmPositive n ∨ x = .vmNegative n ∨ x = .moveSVm n

/-- A Common Memory load delivers to S and V registers and notes its reads (R71; log 17). -/
@[simps]
def State.withLoads (s : State) (sreg : Vector Word 8) (vreg : Vector Vect 8) (reads : List PendingRead) : State :=
  { s with sreg := sreg, vreg := vreg, port := { writes := s.port.writes, reads := reads } }

/-- A Common Memory store adds waiting writes, and may deliver its data to outstanding reads (R71, R77; log 17, log 22). -/
@[simps]
def State.withStores (s : State) (sreg : Vector Word 8) (vreg : Vector Vect 8) (new : List PendingWrite)
    (dirty : List Nat) : State :=
  { s with sreg := sreg, vreg := vreg, port := { writes := s.port.writes ++ new, reads := s.port.reads }, dirty := dirty }

/-- The next states that the instruction `x` can give from `s`, sorted by the operation that ends it and by the fields it may write. -/
inductive Effect (x : Instr) (s : State) : State → Prop where
  | registers (p : Addr) (areg : Vector Addr 8) (sreg : Vector Word 8) (vreg : Vector Vect 8) (sr : Vector Addr 8) :
      Effect x s { s with p := p, areg := areg, sreg := sreg, vreg := vreg, sr := sr }
  | exits (code : BitVec 6) (hx : x = .exitExp code ∨ (x = .err ∧ code = 0) ∨ (x = .exit ∧ code = 1)) :
      Effect x s (s.exitWith code)
  | holds (hx : x = .cmr) : Effect x s (s.quiesce.advance 1)
  | takesSem (p : Addr) (hx : x = .ssm ∨ ∃ c, x = .jcs c ∨ x = .jss c) : Effect x s { s.takeSem with p := p }
  | dropsSem (hx : x = .csm) : Effect x s (s.land.dropSem.advance 1)
  | mask (p : Addr) (vm : Word) (hx : MaskInstr x) : Effect x s { s with p := p, vm := vm }
  | length (p : Addr) (vl : BitVec 6) (hx : ∃ k, x = .moveAVl k ∨ x = .moveAVl037 k) :
      Effect x s { s with p := p, vl := vl }
  | clock (p : Addr) (sreg : Vector Word 8) (rtc : Word) (hx : ∃ n, x = .moveRtS n) :
      Effect x s { s with p := p, sreg := sreg, rtc := rtc }
  | rangeEnable (p : Addr) (b : Bool) (hx : x = .dri ∨ x = .eri) :
      Effect x s { s with p := p, bps := { s.bps with rangeHaltEnable := b } }
  | fpEnable (p : Addr) (b : Bool) (hx : x = .dfi ∨ x = .efi) :
      Effect x s { s with p := p, bps := { s.bps with fpEnable := b } }
  | lmStore (p : Addr) (lm : Memory) (hx : LmStore x)
      (hwf : Memory.wf 16384 s.lm = true → Memory.wf 16384 lm = true) : Effect x s { s with p := p, lm := lm }
  | cmLoad (sreg : Vector Word 8) (vreg : Vector Vect 8) (reads : List PendingRead) (err : Bool) (len : Nat)
      (hx : CmLoad x) (hreads : s.params.cmProgramOrder = true → reads = s.port.reads) :
      Effect x s ((s.withLoads sreg vreg reads).completeRef err len)
  | cmStore (sreg : Vector Word 8) (vreg : Vector Vect 8) (new : List PendingWrite) (dirty : List Nat) (err : Bool)
      (len : Nat) (hx : CmStore x) (hnew : ∀ w ∈ new, w.addr < s.params.cmWords) :
      Effect x s ((s.withStores sreg vreg new dirty).settle.completeRef err len)
  | cmDropped (len : Nat) (hx : CmStore x) : Effect x s (s.completeRef true len)
  | floats (sreg : Vector Word 8) (vreg : Vector Vect 8) (err : Bool) (hx : FloatingPoint x) :
      Effect x s (State.completeFp err { s with sreg := sreg, vreg := vreg })

variable {x : Instr} {s t : State}

/-! ## The effect of each shared operation -/

/-- A branch writes P alone. -/
theorem effect_branch {b : Bool} {c : Addr} (h : Host.Outcome.next (s.branch b c) = (.next t : Result)) :
    Effect x s t := by
  obtain rfl := Host.Outcome.next.inj h
  rw [State.branch_eq]
  exact .registers ..

theorem effect_resultA {i : Reg} {v : Addr} {len : Nat} (h : resultA i v len s = .next t) : Effect x s t := by
  obtain rfl := Host.Outcome.next.inj h
  exact .registers ..

theorem effect_resultS {i : Reg} {v : Word} {len : Nat} (h : resultS i v len s = .next t) : Effect x s t := by
  obtain rfl := Host.Outcome.next.inj h
  exact .registers ..

theorem effect_vectorResult {i : Reg} {f : Elem → Word} (h : vectorResult i f s = .next t) : Effect x s t := by
  obtain rfl := Host.Outcome.next.inj h
  exact .registers ..

/-- A vector instruction under the overlap guard writes its destination and P. -/
theorem effect_guardedVector {b : Bool} {i : Reg} {f : Elem → Word}
    (h : guardOverlap b s (vectorResult i f s) = .next t) : Effect x s t :=
  effect_vectorResult (guardOverlap_next h)

theorem effect_iotaResult {i j k : Reg} (h : iotaResult i j k s = .next t) : Effect x s t := by
  obtain rfl := Host.Outcome.next.inj h
  exact .registers ..

/-- A load of an A register from Local Memory. -/
theorem effect_lmLoadA {a : Addr} {i : Reg} {v : Nat → Addr} {len : Nat}
    (h : withLm a s (fun n => (s.setA i (v n)).advance len) = .next t) : Effect x s t := by
  obtain ⟨n, -, -, rfl⟩ := withLm_next h
  exact .registers ..

/-- A load of an S register from Local Memory. -/
theorem effect_lmLoadS {a : Addr} {i : Reg} {v : Nat → Word} {len : Nat}
    (h : withLm a s (fun n => (s.setS i (v n)).advance len) = .next t) : Effect x s t := by
  obtain ⟨n, -, -, rfl⟩ := withLm_next h
  exact .registers ..

/-- A vector load from Local Memory. -/
theorem effect_loadVLm {i k : Reg} (h : execLoadVLm i k s = .next t) : Effect x s t := by
  unfold execLoadVLm at h
  split at h
  · cases h
  · exact effect_vectorResult h

/-- A store of one word to Local Memory. -/
theorem effect_lmStoreWord {a : Addr} {v : Word} {len : Nat} (hx : LmStore x)
    (h : withLm a s (fun n => (s.lmWrite n v).advance len) = .next t) : Effect x s t := by
  obtain ⟨n, -, hn, rfl⟩ := withLm_next h
  exact .lmStore _ _ hx (fun hwf => State.lmWrite_wf v hwf hn)

/-- A vector store to Local Memory. -/
theorem effect_storeVLm {i k : Reg} (hx : LmStore x) (h : execStoreVLm i k s = .next t) : Effect x s t := by
  unfold execStoreVLm at h
  split at h
  · cases h
  · obtain rfl := Host.Outcome.next.inj h
    exact .lmStore _ _ hx (State.lmWriteElems_wf (s.A k) (s.V i))

theorem effect_maskResult {k : Reg} {test : Word → Bool} (hx : MaskInstr x) (h : maskResult k test s = .next t) :
    Effect x s t := by
  obtain rfl := Host.Outcome.next.inj h
  exact .mask _ _ hx

/-- A Shared-register instruction passes or does its action. -/
theorem effect_withShared {j : Reg} {r : Result} (hr : r = .next t → Effect x s t)
    (h : withShared j s r = .next t) : Effect x s t := by
  unfold withShared at h
  split at h
  · split at h
    · exact hr h
    · cases h
  · obtain rfl := Host.Outcome.next.inj h
    exact .registers ..

/-- Under `CM_PROGRAM_ORDER` no read becomes outstanding (log 19). -/
theorem readsAfter_ordered (new : List PendingRead) (h : s.params.cmProgramOrder = true) :
    ReadsAfter s new = s.port.reads := if_pos h

/-- A read that has issued changes the outstanding reads alone. -/
theorem State.noteRead_eq_withLoads (u : State) (a : Nat) (d : LoadDest) :
    u.noteRead a d = u.withLoads u.sreg u.vreg (ReadsAfter u [{ addr := a, dest := d }]) := by
  rw [State.noteRead_eq, ← State.noteRead_reads, State.withLoads, ← State.noteRead_writes u a d]

/-- A read of one word into an S register, in the field or not. -/
theorem effect_loadWord {i : Reg} {r : Addr} {len : Nat} (hx : CmLoad x) (h : loadWord i r len s = .next t) :
    Effect x s t := by
  obtain ⟨-, -, rfl⟩ | ⟨-, rfl⟩ := loadWord_next h
  · rw [State.noteRead_eq_withLoads]
    exact .cmLoad _ _ _ false len hx (readsAfter_ordered (s := s) _)
  · exact .cmLoad _ s.vreg s.port.reads true len hx (fun _ => rfl)

/-- The reads of a vector load change the outstanding reads alone. -/
theorem State.noteReads_eq_withLoads (i : Reg) (addr : Elem → Addr) (u : State) :
    s.noteReads i addr u = u.withLoads u.sreg u.vreg (s.noteReads i addr u).port.reads := by
  rw [State.noteReads_eq, State.withLoads, ← (s.noteReads_port i addr u).1]

/-- A vector read into a V register. -/
theorem effect_loadElems {i : Reg} {addr : Elem → Addr} (hx : CmLoad x) (h : loadElems i addr s = .next t) :
    Effect x s t := by
  obtain ⟨-, rfl⟩ := loadElems_next h
  have hreads := (s.noteReads_port i addr (s.writeElems i s.vlen (s.elemLoad addr))).2
  rw [State.noteReads_eq_withLoads]
  exact .cmLoad s.sreg _ _ _ _ hx (fun ho => hreads.trans (readsAfter_ordered (s := s.writeElems i _ _) _ ho))

/-- A write of one word, in the field or dropped. -/
theorem effect_writeWord {r : Addr} {v : Word} {len : Nat} (hx : CmStore x) (h : writeWord r v len s = .next t) :
    Effect x s t := by
  obtain ⟨-, hin, rfl⟩ | ⟨-, rfl⟩ := writeWord_next h
  · rw [State.storeWord_eq]
    exact .cmStore _ _ [{ addr := (s.cmAbs r).toNat, value := v }] _ false len hx (by simpa using hin)
  · exact .cmDropped len hx

/-- The writes of a vector store. -/
theorem effect_writeElemsCm {addr : Elem → Addr} {data : Elem → Word} (hx : CmStore x)
    (h : writeElemsCm addr data s = .next t) : Effect x s t := by
  obtain ⟨hm, rfl⟩ := writeElemsCm_next h
  rw [State.storeElems_eq]
  refine .cmStore _ _ _ _ _ _ hx (fun w hw => ?_)
  obtain ⟨e, he, rfl⟩ := List.mem_map.1 hw
  obtain ⟨hel, hf⟩ := List.mem_filter.1 he
  exact State.someMissing_false hm hel hf

theorem effect_scalarFpResult {i : Reg} {r : Word × Bool} (hx : FloatingPoint x)
    (h : scalarFpResult i r s = .next t) : Effect x s t := by
  obtain rfl := Host.Outcome.next.inj h
  exact .floats _ s.vreg _ hx

/-- A vector floating-point instruction under the overlap guard. -/
theorem effect_guardedVectorFp {b : Bool} {i : Reg} {f : Elem → Word × Bool} (hx : FloatingPoint x)
    (h : guardOverlap b s (vectorFpResult i f s) = .next t) : Effect x s t := by
  obtain rfl := Host.Outcome.next.inj (guardOverlap_next h)
  exact .floats s.sreg _ _ hx

/-- What an instruction that answers a next state did is one of the effects. -/
theorem exec_effect (h : exec x s = .next t) : Effect x s t := by
  cases x with
  | exitExp code => cases h; exact .exits code (.inl rfl)
  | err => cases h; exact .exits 0 (.inr (.inl ⟨rfl, rfl⟩))
  | exit => cases h; exact .exits 1 (.inr (.inr ⟨rfl, rfl⟩))
  | cmr => cases h; exact .holds rfl
  | jumpLink | jumpReg | jump | pass | pass077 | pass135 => cases h; exact .registers ..
  | jzA | jnA | jpA | jmA | jzS | jnS | jpS | jmS => exact effect_branch h
  | jcs c => cases h; rw [State.branch_eq]; exact .takesSem _ (.inr ⟨c, .inl rfl⟩)
  | jss c => cases h; rw [State.branch_eq]; exact .takesSem _ (.inr ⟨c, .inr rfl⟩)
  | ssm => cases h; exact .takesSem _ (.inl rfl)
  | csm => cases h; exact .dropsSem rfl
  | addA | subA | mulA | mulA023 | moveSA | moveVlA | shortA | shortNegA | parcelA | parcelNegA | halfA | halfA043 =>
    exact effect_resultA h
  | vmZero k => exact effect_maskResult ⟨k, by simp⟩ h
  | vmNonzero k => exact effect_maskResult ⟨k, by simp⟩ h
  | vmPositive k => exact effect_maskResult ⟨k, by simp⟩ h
  | vmNegative k => exact effect_maskResult ⟨k, by simp⟩ h
  | moveSVm j => cases h; exact .mask _ _ ⟨j, by simp⟩
  | dri => cases h; exact .rangeEnable _ _ (.inl rfl)
  | eri => cases h; exact .rangeEnable _ _ (.inr rfl)
  | dfi => cases h; exact .fpEnable _ _ (.inl rfl)
  | efi => cases h; exact .fpEnable _ _ (.inr rfl)
  | sub035 | sub106a | sub106b | sub164a | sub164b => cases h
  | moveAVl k => cases h; exact .length _ _ ⟨k, .inl rfl⟩
  | moveAVl037 k => cases h; exact .length _ _ ⟨k, .inr rfl⟩
  | loadALm | loadALmReg => exact effect_lmLoadA h
  | loadSLm | loadSLmReg => exact effect_lmLoadS h
  | loadVLm => exact effect_loadVLm h
  | storeALm | storeALmReg | storeSLm | storeSLmReg => exact effect_lmStoreWord (by simp [LmStore]) h
  | storeVLm => exact effect_storeVLm (by simp [LmStore]) h
  | loadSSum | loadSReg | loadSDisp | loadSAbs => exact effect_loadWord (by simp [CmLoad]) h
  | loadVStride => exact effect_loadElems (by simp [CmLoad]) h
  | gather => exact effect_loadElems (by simp [CmLoad]) (guardOverlap_next h)
  | storeSSum | storeSReg | storeSDisp | storeSAbs => exact effect_writeWord (by simp [CmStore]) h
  | storeVStride | scatter => exact effect_writeElemsCm (by simp [CmStore]) h
  | halfS | halfNegS | leftS | fullS | andS | andNotS | xorS | orS | copyS | addS | subS | popS | parityS | lzS
  | shlS | shrS | dshlS | dshrS | moveVmS | shortS | shortNegS | moveAS | moveASigned => exact effect_resultS h
  | moveRtS n => cases h; exact .clock _ _ _ ⟨n, rfl⟩
  | faddS | fsubS | fixS | fltS | fmulS | fmulS125 | recipIterS | rsqrtIterS | recipS | rsqrtS =>
    exact effect_scalarFpResult (by simp [FloatingPoint]) h
  | setShared => exact effect_withShared (fun h => by cases h; exact .registers ..) h
  | readShared => exact effect_withShared effect_resultA h
  | incShared => exact effect_withShared (fun h => by cases h; exact .registers ..) h
  | clearV | broadcastV => exact effect_vectorResult h
  | andSV | andVV | xorSV | xorVV | orSV | orVV | copyV | mergeSV | mergeVV | shlV | shrV | dshlV | dshrV
  | addSV | addVV | subSV | subVV | negV | popV | parityV | lzV => exact effect_guardedVector h
  | fmulSV | fmulVV | recipIterV | rsqrtIterV | recipV | rsqrtV | faddSV | faddVV | fsubSV | fsubVV | fnegV | fixV
  | fltV => exact effect_guardedVectorFp (by simp [FloatingPoint]) h
  | iota | iota177 => exact effect_iotaResult h

end Sys2Proof.Machine
end

section
/-! The statements of noninterference: who writes the vector controls, the status register and the memories, and how a computation period ends. Each is read off the cases of `exec_effect`. -/

namespace Sys2Proof.Machine

variable {x : Instr} {s t : State}

/-- Settles O13: only the mask, length and clock effects write these fields. -/
theorem whoWritesTheVectorControls : Obligations.WhoWritesTheVectorControls := by
  intro x s t h
  cases exec_effect h with
  | mask p vm hx => exact ⟨by simp, fun _ => hx, by simp⟩
  | length p vl hx => exact ⟨fun _ => hx, by simp, by simp⟩
  | clock p sreg rtc hx => exact ⟨by simp, by simp, fun _ => hx⟩
  | _ => simp [State.exitWith]

/-! ## The status register -/

/-- What the end of a Common Memory reference writes of the status register: nothing, the range error signal, or where the halt is enabled the signal and idle mode (R61, R343). -/
theorem State.completeRef_bps_cases (u : State) (err : Bool) (len : Nat) :
    (u.completeRef err len).bps = u.bps ∨
      (u.completeRef err len).bps = { u.bps with rangeError := true } ∨
      (u.bps.rangeHaltEnable = true ∧
        (u.completeRef err len).bps = { u.bps with rangeError := true, idleMode := true }) := by
  obtain ⟨-, e⟩ | ⟨-, -, e⟩ | ⟨-, hen, e⟩ := u.completeRef_cases err len
  · exact .inl (by rw [e, State.advance_bps])
  · exact .inr (.inl (by rw [e, State.advance_bps, State.signalRange_bps]))
  · exact .inr (.inr ⟨hen, by rw [e, State.stop_bps, State.signalRange_bps]⟩)

/-- What the end of a floating-point instruction writes of the status register: nothing, or where enabled the floating-point error signal and idle mode (R344). -/
theorem State.completeFp_bps_cases (u : State) (err : Bool) :
    (u.completeFp err).bps = u.bps ∨
      (u.bps.fpEnable = true ∧ (u.completeFp err).bps = { u.bps with fpError := true, idleMode := true }) := by
  obtain ⟨-, e⟩ | ⟨-, hen, e⟩ := u.completeFp_cases err
  · exact .inl (by rw [e, State.advance_bps])
  · exact .inr ⟨hen, by rw [e, State.stop_bps, State.setBps_bps]⟩

/-- What the instruction `x` may do to the status register and the semaphore flags, from `b` and `f` to `b'` and `f'`: the conclusion of WhoWritesTheStatusRegister. -/
def StatusWrites (x : Instr) (b : Bps) (f : Vector Bool 8) (b' : Bps) (f' : Vector Bool 8) : Prop :=
  (b'.exitMode ≠ b.exitMode ∨ b'.exitCode ≠ b.exitCode → ExitInstr x) ∧
    (b'.idleMode ≠ b.idleMode → b'.idleMode = true ∧
      (ExitInstr x ∨ ((CmLoad x ∨ CmStore x) ∧ b.rangeHaltEnable = true) ∨ (FloatingPoint x ∧ b.fpEnable = true))) ∧
    (b'.rangeHaltEnable ≠ b.rangeHaltEnable → x = .dri ∨ x = .eri) ∧
    (b'.fpEnable ≠ b.fpEnable → x = .dfi ∨ x = .efi) ∧
    (b'.semBit ≠ b.semBit ∨ f' ≠ f → x = .ssm ∨ x = .csm ∨ ∃ c, x = .jcs c ∨ x = .jss c) ∧
    b'.semSelect = b.semSelect ∧
    (b'.rangeError ≠ b.rangeError → b'.rangeError = true ∧ (CmLoad x ∨ CmStore x)) ∧
    (b'.fpError ≠ b.fpError → b'.fpError = true ∧ FloatingPoint x ∧ b.fpEnable = true)

theorem StatusWrites.refl (x : Instr) (b : Bps) (f : Vector Bool 8) : StatusWrites x b f b f := by
  simp [StatusWrites]

/-- A Common Memory reference writes the range error signal and, where enabled, idle mode. -/
theorem statusWrites_completeRef (u : State) (err : Bool) (len : Nat) (hx : CmLoad x ∨ CmStore x) :
    StatusWrites x u.bps u.sem (u.completeRef err len).bps (u.completeRef err len).sem := by
  rw [State.completeRef_sem]
  obtain e | e | ⟨hen, e⟩ := u.completeRef_bps_cases err len
  · rw [e]; exact .refl ..
  · rw [e]; simp [StatusWrites, hx]
  · rw [e]; simp [StatusWrites, hx, hen]

/-- A floating-point instruction with its enable on writes its error signal and idle mode. -/
theorem statusWrites_completeFp (u : State) (err : Bool) (hx : FloatingPoint x) :
    StatusWrites x u.bps u.sem (u.completeFp err).bps (u.completeFp err).sem := by
  rw [State.completeFp_sem]
  obtain e | ⟨hen, e⟩ := u.completeFp_bps_cases err
  · rw [e]; exact .refl ..
  · rw [e]; simp [StatusWrites, hx, hen]

/-- Each effect writes of the status register what its instructions may. -/
theorem Effect.statusWrites (h : Effect x s t) : StatusWrites x s.bps s.sem t.bps t.sem := by
  cases h with
  | exits code hx =>
    have hexit : ExitInstr x := by
      obtain rfl | ⟨rfl, -⟩ | ⟨rfl, -⟩ := hx <;> simp [ExitInstr]
    simp [StatusWrites, State.exitWith, hexit]
  | takesSem p hx =>
    have hsem : x = .ssm ∨ x = .csm ∨ ∃ c, x = .jcs c ∨ x = .jss c := hx.imp_right .inr
    simp [StatusWrites, hsem]
  | dropsSem hx => simp [StatusWrites, hx]
  | rangeEnable p b hx => simp [StatusWrites, hx]
  | fpEnable p b hx => simp [StatusWrites, hx]
  | cmLoad sreg vreg reads err len hx => exact statusWrites_completeRef (s.withLoads ..) err len (.inl hx)
  | cmStore sreg vreg new dirty err len hx =>
    simpa using statusWrites_completeRef (s.withStores sreg vreg new dirty).settle err len (.inr hx)
  | cmDropped len hx => exact statusWrites_completeRef s true len (.inr hx)
  | floats sreg vreg err hx => exact statusWrites_completeFp { s with sreg := sreg, vreg := vreg } err hx
  | registers | holds | mask | length | clock | lmStore => exact .refl ..

/-- Settles O14: every effect keeps to `StatusWrites`. -/
theorem whoWritesTheStatusRegister : Obligations.WhoWritesTheStatusRegister :=
  fun _ _ _ h => (exec_effect h).statusWrites

/-! ## The end of a computation period -/

/-- A Common Memory reference leaves the run state, or halts with the halt enabled (R343). -/
theorem State.completeRef_run_cases (u : State) (err : Bool) (len : Nat) :
    ((u.completeRef err len).run = u.run ∧ (u.completeRef err len).ended = u.ended) ∨
      ((u.completeRef err len).ended = some .haltedRange ∧ u.bps.rangeHaltEnable = true ∧
        (u.completeRef err len).bps.rangeError = true) := by
  obtain ⟨-, e⟩ | ⟨-, -, e⟩ | ⟨-, hen, e⟩ := u.completeRef_cases err len
  · rw [e]; exact .inl ⟨rfl, rfl⟩
  · rw [e]; exact .inl ⟨rfl, rfl⟩
  · rw [e]; exact .inr ⟨rfl, hen, rfl⟩

/-- A floating-point instruction leaves the run state, or halts with its enable on (R344). -/
theorem State.completeFp_run_cases (u : State) (err : Bool) :
    ((u.completeFp err).run = u.run ∧ (u.completeFp err).ended = u.ended) ∨
      ((u.completeFp err).ended = some .haltedFp ∧ u.bps.fpEnable = true ∧ (u.completeFp err).bps.fpError = true) := by
  obtain ⟨-, e⟩ | ⟨-, hen, e⟩ := u.completeFp_cases err
  · rw [e]; exact .inl ⟨rfl, rfl⟩
  · rw [e]; exact .inr ⟨rfl, hen, rfl⟩

/-- An effect leaves the run state and the outcome, or ends the run by an exit, a range halt or a floating-point halt (R341, R343, R344). -/
theorem Effect.run_cases (h : Effect x s t) :
    (t.run = s.run ∧ t.ended = s.ended) ∨
    (∃ code, t.ended = some (.exited code) ∧ t.bps.exitCode = code ∧ t.bps.exitMode = true ∧
      (x = .exitExp code ∨ (x = .err ∧ code = 0) ∨ (x = .exit ∧ code = 1))) ∨
    (t.ended = some .haltedRange ∧ s.bps.rangeHaltEnable = true ∧ t.bps.rangeError = true) ∨
    (t.ended = some .haltedFp ∧ s.bps.fpEnable = true ∧ t.bps.fpError = true) := by
  cases h with
  | exits code hx => exact .inr (.inl ⟨code, rfl, rfl, rfl, hx⟩)
  | cmLoad sreg vreg reads err len =>
    exact ((s.withLoads sreg vreg reads).completeRef_run_cases err len).imp_right (.inr ∘ .inl)
  | cmStore sreg vreg new dirty err len =>
    have h := ((s.withStores sreg vreg new dirty).settle).completeRef_run_cases err len
    simp only [State.settle_run, State.settle_ended, State.settle_bps] at h
    exact h.imp_right (.inr ∘ .inl)
  | cmDropped len => exact (s.completeRef_run_cases true len).imp_right (.inr ∘ .inl)
  | floats sreg vreg err =>
    exact (State.completeFp_run_cases { s with sreg := sreg, vreg := vreg } err).imp_right (.inr ∘ .inr)
  | _ => exact .inl ⟨rfl, rfl⟩

/-- Settles O15: a running processor that becomes idle has changed its run state, so one of the three ends is left. -/
theorem howAComputationPeriodEnds : Obligations.HowAComputationPeriodEnds := by
  intro x s t hrun h hidle
  refine (exec_effect h).run_cases.resolve_left fun ⟨hsame, _⟩ => ?_
  rw [hidle, hrun] at hsame
  cases hsame

/-! ## The memories -/

/-- The waiting writes stay where they are, or all of them reach memory (log 20). -/
def Landing (s t : State) : Prop :=
  (t.port.writes = s.port.writes ∧ t.cm = s.cm) ∨ (t.port.writes = [] ∧ t.cm = s.landed)

/-- After a landing nothing new waits. -/
theorem Landing.waiting (h : Landing s t) (a : Nat) : t.waiting a = s.waiting a ∨ t.waiting a = [] := by
  obtain ⟨hw, -⟩ | ⟨hw, -⟩ := h
  · exact .inl (by rw [State.waiting, hw, State.waiting])
  · exact .inr (t.waiting_empty hw a)

/-- After a landing a word holds what it held or a value that waited for it (R71). -/
theorem Landing.read (h : Landing s t) (a : Nat) : t.cm.read a = s.cm.read a ∨ t.cm.read a ∈ s.waiting a := by
  obtain ⟨-, hc⟩ | ⟨-, hc⟩ := h
  · exact .inl (by rw [hc])
  · have hl := s.landed_read a
    rw [hc]
    split at hl
    · exact .inl hl
    · exact .inr hl

theorem landing_completeRef (u : State) (err : Bool) (len : Nat) : Landing u (u.completeRef err len) := by
  obtain ⟨-, e⟩ | ⟨-, -, e⟩ | ⟨-, -, e⟩ := u.completeRef_cases err len
  · rw [e]; exact .inl ⟨rfl, rfl⟩
  · rw [e]; exact .inl ⟨rfl, rfl⟩
  · rw [e]; exact .inr ⟨rfl, rfl⟩

theorem landing_completeFp (u : State) (err : Bool) : Landing u (u.completeFp err) := by
  obtain ⟨-, e⟩ | ⟨-, -, e⟩ := u.completeFp_cases err
  · rw [e]; exact .inl ⟨rfl, rfl⟩
  · rw [e]; exact .inr ⟨rfl, rfl⟩

/-- An instruction other than a Common Memory store adds no waiting write and no word stored to. -/
theorem Effect.landing (h : Effect x s t) : CmStore x ∨ (Landing s t ∧ t.dirty = s.dirty) := by
  cases h with
  | cmStore sreg vreg new dirty err len hx => exact .inl hx
  | cmDropped len hx => exact .inl hx
  | cmLoad sreg vreg reads err len =>
    exact .inr ⟨landing_completeRef (s.withLoads sreg vreg reads) err len, by simp⟩
  | floats sreg vreg err => exact .inr ⟨landing_completeFp { s with sreg := sreg, vreg := vreg } err, by simp⟩
  | exits | holds | dropsSem => exact .inr ⟨.inr ⟨rfl, rfl⟩, rfl⟩
  | registers | takesSem | mask | length | clock | rangeEnable | fpEnable | lmStore =>
    exact .inr ⟨.inl ⟨rfl, rfl⟩, rfl⟩

/-- Local Memory is written by its stores alone. -/
theorem Effect.lm (h : Effect x s t) : LmStore x ∨ t.lm = s.lm := by
  cases h with
  | lmStore p lm hx => exact .inl hx
  | _ => exact .inr (by simp [State.exitWith])

/-- Settles O16: what is no Local Memory store leaves Local Memory, and what is no Common Memory store lets waiting writes land at most. -/
theorem whoWritesTheMemories : Obligations.WhoWritesTheMemories := by
  intro x s t h
  have heff := exec_effect h
  refine ⟨fun ⟨a, ha⟩ => heff.lm.resolve_right fun hlm => ha (by rw [hlm]), ?_⟩
  obtain hx | ⟨hland, hdirty⟩ := heff.landing
  · exact ⟨fun _ => hx, fun _ => hx, fun _ => hx⟩
  · refine ⟨fun ⟨a, hne, hempty⟩ => ?_, fun ⟨a, hmem, hne⟩ => ?_, fun hne => absurd hdirty hne⟩
    · exact (hland.waiting a).elim (absurd · hne) (absurd · hempty)
    · exact (hland.read a).elim (absurd · hne) (absurd · hmem)

end Sys2Proof.Machine
end

section
/-! What one step can do, and the two statements about steps: the invariant, and the registers that no step writes. -/

namespace Sys2Proof.Machine

variable {x : Instr} {s t : State}

/-- A step in idle mode gives the same state (R362; log 6). -/
theorem step_of_idle (h : s.run = .idle) : step s = .next s := by
  unfold step
  rw [h]

/-- What a step that answers a next state did: nothing in idle mode, a halt in place of an instruction (R347 c), or the instruction fetched at P, with its issue done and perhaps the range error signalled. -/
theorem step_next (h : step s = .next t) :
    (s.run = .idle ∧ t = s) ∨
      (s.run = .running ∧ s.bps.rangeHaltEnable = true ∧
        t = s.tick.signalRange.stop .haltedRange s.fetched.length) ∨
      (s.run = .running ∧ ∃ u, (u = s.tick ∨ u = s.tick.signalRange) ∧
        exec (decodeFetched s.fetched) (u.issue (decodeFetched s.fetched)) = .next t) := by
  cases hrun : s.run with
  | idle =>
    rw [step_of_idle hrun] at h
    exact .inl ⟨rfl, (Host.Outcome.next.inj h).symm⟩
  | running =>
    right
    simp only [step, hrun] at h
    split_ifs at h with _ _ _ hen
    · exact .inl ⟨rfl, hen, (Host.Outcome.next.inj h).symm⟩
    · exact .inr ⟨rfl, _, .inr rfl, h⟩
    · exact .inr ⟨rfl, _, .inl rfl, h⟩

/-! ## What no step writes -/

/-- Two states have the same field, semaphore assignment and parameters. -/
def SameField (s t : State) : Prop :=
  t.ba = s.ba ∧ t.la = s.la ∧ t.bps.semSelect = s.bps.semSelect ∧ t.params = s.params

/-- No effect writes BA, LA or a parameter. -/
theorem Effect.sameField (h : Effect x s t) : SameField s t := by
  obtain ⟨-, -, -, -, -, hsem, -⟩ := h.statusWrites
  cases h <;> exact ⟨by simp [State.exitWith], by simp [State.exitWith], hsem, by simp [State.exitWith]⟩

/-- Settles O12: a step ends in a halt, which leaves the field, or in an instruction's effect. -/
theorem fieldAndAssignmentAreFixed : Obligations.FieldAndAssignmentAreFixed := by
  intro s t h
  obtain ⟨-, rfl⟩ | ⟨-, -, rfl⟩ | ⟨-, u, rfl | rfl, h⟩ := step_next h
  · exact ⟨rfl, rfl, rfl, rfl⟩
  · exact ⟨rfl, rfl, rfl, rfl⟩
  · exact (exec_effect h).sameField
  · exact (exec_effect h).sameField

/-! ## The invariant -/

/-- The invariant speaks of the memories, the port, the run state, the Idle Mode flag, the outcome and the parameters only. -/
theorem Invariant.congr (h : Invariant s) (hcm : t.cm = s.cm) (hlm : t.lm = s.lm) (hport : t.port = s.port)
    (hidle : t.bps.idleMode = s.bps.idleMode) (hrun : t.run = s.run) (hended : t.ended = s.ended)
    (hparams : t.params = s.params) : Invariant t where
  cmWf := by rw [hcm, hparams]; exact h.cmWf
  lmWf := by rw [hlm]; exact h.lmWf
  pendingInstalled := by rw [hport, hparams]; exact h.pendingInstalled
  idleFlag := by rw [hrun, hidle]; exact h.idleFlag
  idleQuiet := by rw [hrun, hport]; exact h.idleQuiet
  orderedQuiet := by rw [hparams, hport]; exact h.orderedQuiet
  runningOpen := by rw [hrun, hended]; exact h.runningOpen

theorem Invariant.tick (h : Invariant s) : Invariant s.tick := h.congr rfl rfl rfl rfl rfl rfl rfl

theorem Invariant.signalRange (h : Invariant s) : Invariant s.signalRange := h.congr rfl rfl rfl rfl rfl rfl rfl

theorem Invariant.advance (h : Invariant s) (len : Nat) : Invariant (s.advance len) :=
  h.congr rfl rfl rfl rfl rfl rfl rfl

theorem Invariant.withLm (h : Invariant s) {p : Addr} {lm : Memory} (hlm : Memory.wf 16384 lm = true) :
    Invariant { s with p := p, lm := lm } :=
  ⟨h.cmWf, hlm, h.pendingInstalled, h.idleFlag, h.idleQuiet, h.orderedQuiet, h.runningOpen⟩

/-- The issue of an instruction ends outstanding reads only; an empty port stays empty. -/
theorem Invariant.issue (h : Invariant s) (x : Instr) : Invariant (s.issue x) where
  cmWf := h.cmWf
  lmWf := h.lmWf
  pendingInstalled := h.pendingInstalled
  idleFlag := h.idleFlag
  idleQuiet hi := by rw [State.issue_port, h.idleQuiet hi]; rfl
  orderedQuiet ho := by rw [State.issue_port, h.orderedQuiet ho]; rfl
  runningOpen := h.runningOpen

/-- The waiting writes land within installed memory (R71 ii). -/
theorem Invariant.land (h : Invariant s) : Invariant s.land where
  cmWf := State.landed_wf h.cmWf h.pendingInstalled
  lmWf := h.lmWf
  pendingInstalled := by simp
  idleFlag := h.idleFlag
  idleQuiet hi := by rw [State.land_port, h.idleQuiet hi]; rfl
  orderedQuiet ho := by rw [State.land_port, h.orderedQuiet ho]; rfl
  runningOpen := h.runningOpen

theorem Invariant.quiesce (h : Invariant s) : Invariant s.quiesce where
  cmWf := State.landed_wf h.cmWf h.pendingInstalled
  lmWf := h.lmWf
  pendingInstalled := by simp [Port.empty]
  idleFlag := h.idleFlag
  idleQuiet _ := rfl
  orderedQuiet _ := rfl
  runningOpen := h.runningOpen

/-- A stop leaves the processor idle, with the flag, and nothing outstanding (R343, R344). -/
theorem Invariant.stop (h : Invariant s) (why : RunEnd) (len : Nat) : Invariant (s.stop why len) where
  cmWf := State.landed_wf h.cmWf h.pendingInstalled
  lmWf := h.lmWf
  pendingInstalled := by simp [Port.empty]
  idleFlag := by simp
  idleQuiet _ := rfl
  orderedQuiet _ := rfl
  runningOpen hr := by simp at hr

theorem Invariant.completeRef (h : Invariant s) (err : Bool) (len : Nat) : Invariant (s.completeRef err len) := by
  obtain ⟨-, e⟩ | ⟨-, -, e⟩ | ⟨-, -, e⟩ := s.completeRef_cases err len
  · rw [e]; exact h.advance len
  · rw [e]; exact h.signalRange.advance len
  · rw [e]; exact h.signalRange.stop .haltedRange len

theorem Invariant.completeFp (h : Invariant s) (err : Bool) : Invariant (s.completeFp err) := by
  obtain ⟨-, e⟩ | ⟨-, -, e⟩ := s.completeFp_cases err
  · rw [e]; exact h.advance 1
  · rw [e]
    have hsignal : Invariant (s.setBps { s.bps with fpError := true }) := h.congr rfl rfl rfl rfl rfl rfl rfl
    exact hsignal.stop .haltedFp 1

/-- Reads of a running processor may stay outstanding, unless `CM_PROGRAM_ORDER` holds (log 17, log 19). -/
theorem Invariant.withLoads (h : Invariant s) (hrun : s.run = .running) {sreg : Vector Word 8} {vreg : Vector Vect 8}
    {reads : List PendingRead} (hreads : s.params.cmProgramOrder = true → reads = s.port.reads) :
    Invariant (s.withLoads sreg vreg reads) where
  cmWf := h.cmWf
  lmWf := h.lmWf
  pendingInstalled := h.pendingInstalled
  idleFlag := h.idleFlag
  idleQuiet hi := by rw [State.withLoads_run, hrun] at hi; cases hi
  orderedQuiet ho := by
    rw [State.withLoads, hreads ho]
    exact h.orderedQuiet ho
  runningOpen := h.runningOpen

/-- Writes of a running processor to installed memory wait, or under `CM_PROGRAM_ORDER`, where no read is outstanding, land at once (log 19). -/
theorem Invariant.withStores_settle (h : Invariant s) (hrun : s.run = .running) {sreg : Vector Word 8}
    {vreg : Vector Vect 8} {new : List PendingWrite} {dirty : List Nat}
    (hnew : ∀ w ∈ new, w.addr < s.params.cmWords) : Invariant (s.withStores sreg vreg new dirty).settle := by
  have hpending : ∀ w ∈ s.port.writes ++ new, w.addr < s.params.cmWords := fun w hw =>
    (List.mem_append.1 hw).elim (h.pendingInstalled w) (hnew w)
  have hnotIdle : s.run ≠ .idle := by rw [hrun]; simp
  unfold State.settle
  split
  case isTrue ho =>
    exact
      { cmWf := State.landed_wf (s := s.withStores sreg vreg new dirty) h.cmWf hpending
        lmWf := h.lmWf
        pendingInstalled := by simp
        idleFlag := h.idleFlag
        idleQuiet := fun hi => absurd hi hnotIdle
        orderedQuiet := fun _ => by simp [h.orderedQuiet ho, Port.empty]
        runningOpen := h.runningOpen }
  case isFalse ho =>
    exact
      { cmWf := h.cmWf
        lmWf := h.lmWf
        pendingInstalled := hpending
        idleFlag := h.idleFlag
        idleQuiet := fun hi => absurd hi hnotIdle
        orderedQuiet := fun ho' => absurd ho' ho
        runningOpen := h.runningOpen }

/-- Every effect on a running processor keeps the invariant. -/
theorem Effect.invariant (heff : Effect x s t) (hrun : s.run = .running) (h : Invariant s) : Invariant t := by
  cases heff with
  | exits code =>
    have hflags : Invariant (s.setBps { s.bps with exitMode := true, exitCode := code }) :=
      h.congr rfl rfl rfl rfl rfl rfl rfl
    exact hflags.stop (.exited code) 1
  | holds => exact h.quiesce.advance 1
  | dropsSem => exact h.land.congr rfl rfl rfl rfl rfl rfl rfl
  | lmStore p lm _ hwf => exact h.withLm (hwf h.lmWf)
  | cmLoad sreg vreg reads err len _ hreads => exact (h.withLoads hrun hreads).completeRef err len
  | cmStore sreg vreg new dirty err len _ hnew => exact (h.withStores_settle hrun hnew).completeRef err len
  | cmDropped len => exact h.completeRef true len
  | floats sreg vreg err =>
    have hregs : Invariant { s with sreg := sreg, vreg := vreg } := h.congr rfl rfl rfl rfl rfl rfl rfl
    exact hregs.completeFp err
  | registers | takesSem | mask | length | clock | rangeEnable | fpEnable => exact h.congr rfl rfl rfl rfl rfl rfl rfl

/-- Settles O10: a step is nothing, a halt or an effect of a running processor, and each keeps the invariant. -/
theorem everyStepKeepsTheInvariant : Obligations.EveryStepKeepsTheInvariant := by
  intro s t h hstep
  obtain ⟨-, rfl⟩ | ⟨-, -, rfl⟩ | ⟨hrun, u, rfl | rfl, hexec⟩ := step_next hstep
  · exact h
  · exact h.tick.signalRange.stop ..
  · exact (exec_effect hexec).invariant hrun (h.tick.issue _)
  · exact (exec_effect hexec).invariant hrun (h.tick.signalRange.issue _)

/-! ## Fetch and issue -/

/-- A running processor whose fetch meets no error runs the instruction fetched (R353, R390). -/
theorem step_of_good_fetch (hrun : s.run = .running)
    (hgood : ∀ f ∈ s.fetched, f.stale = false ∧ f.missing = false ∧ f.outOfField = false) :
    step s = exec (decodeFetched s.fetched) (s.tick.issue (decodeFetched s.fetched)) := by
  have hstale : s.fetched.any (·.stale) = false := List.any_eq_false.2 fun f hf => by simp [hgood f hf]
  have hmissing : s.fetched.any (·.missing) = false := List.any_eq_false.2 fun f hf => by simp [hgood f hf]
  have hout : s.fetched.any (·.outOfField) = false := List.any_eq_false.2 fun f hf => by simp [hgood f hf]
  simp [step, hrun, hstale, hmissing, hout]

/-- Settles O4: the fetched parcels are the given ones and raise no error, so the step is the instruction they decode to. -/
theorem stepRunsDecodedInstruction : Obligations.StepRunsDecodedInstruction := by
  intro s ps x hrun hdecode hps
  obtain ⟨hfetched, hx⟩ := State.fetched_of_decode hdecode (fun q hq => by rw [hps q hq])
  have hgood : ∀ f ∈ s.fetched, f.stale = false ∧ f.missing = false ∧ f.outOfField = false := by
    intro f hf
    rw [hfetched] at hf
    obtain ⟨q, hq, rfl⟩ := List.mem_map.1 hf
    rw [hps q (List.mem_range.1 hq)]
    exact ⟨rfl, rfl, rfl⟩
  refine ⟨?_, ?_, rfl, fun r => ?_⟩
  · rw [step_of_good_fetch hrun hgood, hx]
  · intro l hl
    cases l with
    | draws => exact absurd (.inl rfl) hl
    | reads => exact absurd (.inr rfl) hl
    | cm a => exact ⟨rfl, rfl⟩
    | _ => rfl
  · simp

/-- Settles O7: a stale parcel is among the fetched ones. -/
theorem idleStepsAndStaleFetches : Obligations.IdleStepsAndStaleFetches := by
  refine ⟨fun s h => step_of_idle h, fun s q hrun hq hstale => ?_⟩
  have hany : s.fetched.any (·.stale) = true :=
    List.any_eq_true.2 ⟨_, State.mem_fetched.2 ⟨q, hq, rfl⟩, hstale⟩
  simp [step, hrun, hany]

end Sys2Proof.Machine
end

section
/-! The complete effects of 000, of 030 to 034, 036 and 037, and of 115: what they write, and that they leave every other place alone. -/

namespace Sys2Proof.Machine

/-! ## Decoding -/

/-- The decoder goes by the octal digits of the code (R90, R100). -/
theorem decodeParcels_parcelOf (f : BitVec 7) (i j k : Reg) (m1 m2 m3 m4 : Parcel) :
    decodeParcels (parcelOf f i j k) m1 m2 m3 m4 =
      if f[6] then decodeHigh (f.extractLsb' 3 3).toFin (f.extractLsb' 0 3).toFin (parcelOf f i j k)
      else decodeLow (f.extractLsb' 3 3).toFin (f.extractLsb' 0 3).toFin (parcelOf f i j k) m1 m2 m3 m4 := by
  simp [decodeParcels, BitVec.getLsbD_eq_getElem]

/-! ## 000 -/

/-- A stop changes P, idle mode, the run state, the outcome, the outstanding reads and the words with waiting writes (R343, R344, R349). -/
theorem State.stop_frame (u : State) (why : RunEnd) (len : Nat) :
    Frame (fun l => StopLoc l ∨ WaitingLoc u l) u (u.stop why len) := by
  intro l hl
  cases l with
  | p | idleMode | run | ended | reads => exact absurd (.inl (by simp [StopLoc])) hl
  | cm a =>
    have hw : u.waiting a = [] := by
      by_contra hne
      exact hl (.inr ⟨a, rfl, hne⟩)
    have hread := u.landed_read a
    rw [if_pos hw] at hread
    exact ⟨hread, hw.symm⟩
  | _ => rfl

/-- An exit sets the exit mode and the exit code, and stops (R160). -/
theorem exitWith_completes (s : State) (code : BitVec 6) :
    Completes (.next (s.exitWith code)) s (fun l => StopLoc l ∨ WaitingLoc s l ∨ l = .exitMode ∨ l = .exitCode)
      (fun t => t.bps.exitMode = true ∧ t.bps.exitCode = code ∧ Stopped (.exited code) 1 s t ∧ Landed s t) := by
  refine ⟨_, rfl, ⟨rfl, rfl, ?_, ?_⟩, fun l hl => ?_⟩
  · exact State.stop_stopped (s.setBps { s.bps with exitMode := true, exitCode := code }) (.exited code) 1
  · exact State.stop_landed (s.setBps { s.bps with exitMode := true, exitCode := code }) (.exited code) 1
  · have hstop := (s.setBps { s.bps with exitMode := true, exitCode := code }).stop_frame (.exited code) 1 l
      (fun h => hl (h.imp_right .inl))
    cases l with
    | exitMode | exitCode => simp at hl
    | _ => exact hstop

/-- Settles O17: the three spellings of 000 are one exit each. -/
theorem exitStopsWithItsCode : Obligations.ExitStopsWithItsCode := by
  refine ⟨fun i j k m1 m2 m3 m4 => ?_, ?_⟩
  · rw [decodeParcels_parcelOf, ← fieldJk_parcelOf 0o000 i j k]
    rfl
  · rintro s x code (rfl | ⟨rfl, rfl⟩ | ⟨rfl, rfl⟩)
    · exact exitWith_completes s code
    · exact exitWith_completes s 0
    · exact exitWith_completes s 1

/-! ## The vector mask and the vector length -/

/-- The bits of a mask that is built one element at a time. -/
theorem getLsbD_foldl_mask (l : List Elem) (c : Elem → Bool) (m : Word) (e : Elem) :
    (l.foldl (fun m d => if c d then m ||| BitVec.twoPow 64 (63 - d.val) else m) m).getLsbD (63 - e.val) = true ↔
      m.getLsbD (63 - e.val) = true ∨ (e ∈ l ∧ c e = true) := by
  induction l generalizing m with
  | nil => simp
  | cons d l ih =>
    have hbit : (BitVec.twoPow 64 (63 - d.val)).getLsbD (63 - e.val) = true ↔ e = d := by
      rw [BitVec.getLsbD_twoPow, Fin.ext_iff]
      simp
      omega
    rw [List.foldl_cons, ih]
    by_cases hc : c d = true
    · rw [if_pos hc, BitVec.getLsbD_or, Bool.or_eq_true, hbit, List.mem_cons]
      constructor
      · rintro ((hm | rfl) | ⟨he, hce⟩)
        · exact .inl hm
        · exact .inr ⟨.inl rfl, hc⟩
        · exact .inr ⟨.inr he, hce⟩
      · rintro (hm | ⟨rfl | he, hce⟩)
        · exact .inl (.inl hm)
        · exact .inl (.inr rfl)
        · exact .inr ⟨he, hce⟩
    · rw [if_neg hc, List.mem_cons]
      have hne : c e = true → e ≠ d := fun hce hed => hc (hed ▸ hce)
      constructor
      · exact .imp_right fun ⟨he, hce⟩ => ⟨.inr he, hce⟩
      · exact .imp_right fun ⟨he, hce⟩ => ⟨he.resolve_left (hne hce), hce⟩

/-- Bit 63 - e of a mask tells whether element e is in force and meets the test (R130, R207). -/
theorem getLsbD_maskWhere (n : Nat) (test : Elem → Bool) (e : Elem) :
    (maskWhere n test).getLsbD (63 - e.val) = true ↔ e.val < n ∧ test e = true := by
  unfold maskWhere
  rw [getLsbD_foldl_mask _ (fun e => decide (e.val < n) && test e)]
  simp

theorem testZero_iff {w : Word} : testZero w = true ↔ w = 0 := by simp [testZero]

theorem testNonzero_iff {w : Word} : testNonzero w = true ↔ w ≠ 0 := by simp [testNonzero]

theorem testPositive_iff {w : Word} : testPositive w = true ↔ 0 ≤ w.toInt := by
  simp [testPositive, BitVec.msb_eq_toInt]

theorem testNegative_iff {w : Word} : testNegative w = true ↔ w.toInt < 0 := by
  simp [testNegative, BitVec.msb_eq_toInt]

theorem frame_mask (s : State) (p : Addr) (vm : Word) :
    Frame (fun l => l = .p ∨ l = .vm) s { s with p := p, vm := vm } := by
  intro l hl
  cases l with
  | p | vm => simp at hl
  | cm a => exact ⟨rfl, rfl⟩
  | _ => rfl

theorem frame_length (s : State) (p : Addr) (vl : BitVec 6) :
    Frame (fun l => l = .p ∨ l = .vl) s { s with p := p, vl := vl } := by
  intro l hl
  cases l with
  | p | vl => simp at hl
  | cm a => exact ⟨rfl, rfl⟩
  | _ => rfl

/-- A mask instruction sets the bits of the elements in force that meet its test, and nothing else but P changes (R207). -/
theorem maskResult_completes (s : State) (k : Reg) {test : Word → Bool} (P : Word → Prop)
    (htest : ∀ {w}, test w = true ↔ P w) :
    Completes (maskResult k test s) s (fun l => l = .p ∨ l = .vm)
      (fun t => (∀ e : Elem, t.vm.getLsbD (63 - e.val) = true ↔ e.val < s.vlen ∧ P (s.V k e)) ∧ t.p = s.p + 1) :=
  ⟨_, rfl, ⟨fun e => by rw [State.advance_vm, State.setVm_vm, getLsbD_maskWhere, htest], rfl⟩, frame_mask s _ _⟩

/-- 036 and 037 copy the low 6 bits of an A register (R197, R198). -/
theorem setVl_completes (s : State) (k : Reg) :
    Completes (.next ((s.setVl ((s.A k).extractLsb' 0 6)).advance 1)) s (fun l => l = .p ∨ l = .vl)
      (fun t => t.vl.toNat = (s.A k).toNat % 64 ∧ t.p = s.p + 1) :=
  ⟨_, rfl, ⟨by simp, rfl⟩, frame_length s _ _⟩

/-- Settles O27: the seven codes are in one row of the decoder, and each instruction sets VM or VL and P. -/
theorem vectorMaskAndLengthAreSet : Obligations.VectorMaskAndLengthAreSet := by
  refine ⟨⟨rfl, fun i j k => ?_⟩, ⟨rfl, fun i j k => ?_⟩, ⟨rfl, fun i j k => ?_⟩, ⟨rfl, fun i j k => ?_⟩,
    ⟨rfl, fun i j k => ?_⟩, ⟨rfl, fun i j k => ?_⟩, ⟨rfl, fun i j k => ?_⟩, fun s j k => ?_⟩
  case refine_8 =>
    exact ⟨rfl, maskResult_completes s k (· = 0) testZero_iff, maskResult_completes s k (· ≠ 0) testNonzero_iff,
      maskResult_completes s k (0 ≤ ·.toInt) testPositive_iff, maskResult_completes s k (·.toInt < 0) testNegative_iff,
      ⟨_, rfl, ⟨rfl, rfl⟩, frame_mask s _ _⟩, setVl_completes s k, setVl_completes s k⟩
  all_goals
    intros
    rw [decodeParcels_parcelOf]
    simp [decodeLow, decodeRow030]

/-! ## The clock -/

/-- A reading of the clock is no less than the last one (R356, D15). -/
theorem State.rtc_le_clockReading (s : State) : s.rtc.toNat ≤ s.clockReading.toNat := by
  unfold State.clockReading
  split
  case isTrue h => exact BitVec.le_def.1 h
  case isFalse => exact le_rfl

/-- Settles O46: the reading goes to S[i] and to the clock field, and P moves past 115. -/
theorem clockReadingsDoNotDecrease : Obligations.ClockReadingsDoNotDecrease := by
  refine ⟨⟨rfl, fun i j k m1 m2 m3 m4 => ?_⟩, fun s i => ⟨_, rfl, ⟨?_, ?_, rfl⟩, fun l hl => ?_⟩⟩
  · rw [decodeParcels_parcelOf]
    simp [decodeHigh, decodeRow110]
  · simp
  · simpa using s.rtc_le_clockReading
  · cases l with
    | p | rtc => simp at hl
    | s n =>
      have hne : i ≠ n := fun h => hl (.inr (.inl (by rw [h])))
      simp [Agree, hne]
    | cm a => exact ⟨rfl, rfl⟩
    | _ => rfl

end Sys2Proof.Machine
end

section
/-! One rule per state operation: which places it may change. A frame over a whole instruction is these, composed. -/

namespace Sys2Proof.Machine

variable {s t u : State} {c d : Loc → Prop}

theorem Agree.trans {l : Loc} (h : Agree l s t) (h' : Agree l t u) : Agree l s u := by
  cases l with
  | cm a => exact ⟨h'.1.trans h.1, h'.2.trans h.2⟩
  | _ => exact Eq.trans h' h

theorem Frame.refl (s : State) : Frame (fun _ => False) s s := by
  intro l _
  cases l with
  | cm a => exact ⟨rfl, rfl⟩
  | _ => rfl

theorem Frame.mono (h : Frame c s t) (hcd : ∀ l, c l → d l) : Frame d s t :=
  fun l hl => h l fun hc => hl (hcd l hc)

theorem Frame.trans (h : Frame c s t) (h' : Frame d t u) : Frame (fun l => c l ∨ d l) s u :=
  fun l hl => (h l fun hc => hl (.inl hc)).trans (h' l fun hd => hl (.inr hd))

/-! ## P and the registers -/

theorem State.jump_frame (s : State) (p : Addr) : Frame (· = .p) s (s.jump p) := by
  intro l hl
  cases l with
  | p => exact absurd rfl hl
  | cm a => exact ⟨rfl, rfl⟩
  | _ => rfl

theorem State.advance_frame (s : State) (len : Nat) : Frame (· = .p) s (s.advance len) := s.jump_frame _

theorem State.branch_frame (s : State) (taken : Bool) (target : Addr) : Frame (· = .p) s (s.branch taken target) := by
  cases taken
  · exact s.advance_frame 3
  · exact s.jump_frame target

theorem State.setA_frame (s : State) (n : Reg) (v : Addr) : Frame (· = .a n) s (s.setA n v) := by
  intro l hl
  cases l with
  | a m =>
    have hne : n ≠ m := fun h => hl (by rw [h])
    simp [Agree, hne]
  | cm a => exact ⟨rfl, rfl⟩
  | _ => rfl

theorem State.setS_frame (s : State) (n : Reg) (v : Word) : Frame (· = .s n) s (s.setS n v) := by
  intro l hl
  cases l with
  | s m =>
    have hne : n ≠ m := fun h => hl (by rw [h])
    simp [Agree, hne]
  | cm a => exact ⟨rfl, rfl⟩
  | _ => rfl

/-- The elements in force are written, no other (R129). -/
theorem State.writeElems_frame (s : State) (i : Reg) (n : Nat) (f : Elem → Word) :
    Frame (fun l => ∃ e : Elem, l = .v i e ∧ e.val < n) s (s.writeElems i n f) := by
  intro l hl
  cases l with
  | v m e =>
    have hne : ¬ (i = m ∧ e.val < n) := fun ⟨hm, he⟩ => hl ⟨e, by rw [hm], he⟩
    simp [Agree, hne]
  | cm a => exact ⟨rfl, rfl⟩
  | _ => rfl

/-! ## The status register and the semaphore -/

theorem State.tick_frame (s : State) : Frame (· = .draws) s s.tick := by
  intro l hl
  cases l with
  | draws => exact absurd rfl hl
  | cm a => exact ⟨rfl, rfl⟩
  | _ => rfl

theorem State.signalRange_frame (s : State) : Frame (· = .rangeError) s s.signalRange := by
  intro l hl
  cases l with
  | rangeError => exact absurd rfl hl
  | cm a => exact ⟨rfl, rfl⟩
  | _ => rfl

/-- The other flags are left alone (R28, R75). -/
theorem State.takeSem_frame (s : State) :
    Frame (fun l => l = .sem s.bps.semSelect ∨ l = .semBit) s s.takeSem := by
  intro l hl
  cases l with
  | semBit => simp at hl
  | sem n =>
    have hne : s.bps.semSelect ≠ n := fun h => hl (.inl (by rw [h]))
    simp [Agree, hne]
  | cm a => exact ⟨rfl, rfl⟩
  | _ => rfl

theorem State.dropSem_frame (s : State) :
    Frame (fun l => l = .sem s.bps.semSelect ∨ l = .semBit) s s.dropSem := by
  intro l hl
  cases l with
  | semBit => simp at hl
  | sem n =>
    have hne : s.bps.semSelect ≠ n := fun h => hl (.inl (by rw [h]))
    simp [Agree, hne]
  | cm a => exact ⟨rfl, rfl⟩
  | _ => rfl

/-! ## Local Memory -/

theorem State.lmWrite_frame (s : State) (n : Nat) (v : Word) : Frame (· = .lm n) s (s.lmWrite n v) := by
  intro l hl
  cases l with
  | lm a =>
    have hne : n ≠ a := fun h => hl (by rw [h])
    simp [Agree, hne]
  | cm a => exact ⟨rfl, rfl⟩
  | _ => rfl

theorem State.lmWriteElems_frame (s : State) (a : Addr) (data : Elem → Word) :
    Frame (fun l => ∃ e : Elem, e.val < s.vlen ∧ l = .lm (s.lmPlace a e)) s (s.lmWriteElems a data) := by
  intro l hl
  cases l with
  | lm b =>
    have hother : ∀ e ∈ s.elements, s.lmPlace a e ≠ b := fun e he h => hl ⟨e, State.mem_elements.1 he, by rw [h]⟩
    exact Memory.read_foldl_write_other s.elements (s.lmPlace a) data s.lm hother
  | cm a => exact ⟨rfl, rfl⟩
  | _ => rfl

/-! ## Common Memory and its port -/

/-- Where the waiting writes complete, a word for which none waits is as before (R71). -/
theorem State.agree_cm_of_landed {a : Nat} (hcm : t.cm = s.landed) (hport : t.port.writes = [])
    (hw : s.waiting a = []) : Agree (.cm a) s t := by
  have hread := s.landed_read a
  rw [if_pos hw, ← hcm] at hread
  exact ⟨hread, (t.waiting_empty hport a).trans hw.symm⟩

theorem State.land_frame (s : State) : Frame (WaitingLoc s) s s.land := by
  intro l hl
  cases l with
  | cm a => exact State.agree_cm_of_landed rfl rfl (by_contra fun hne => hl ⟨a, rfl, hne⟩)
  | _ => rfl

theorem State.quiesce_frame (s : State) : Frame (fun l => l = .reads ∨ WaitingLoc s l) s s.quiesce := by
  intro l hl
  cases l with
  | reads => simp at hl
  | cm a => exact State.agree_cm_of_landed rfl rfl (by_contra fun hne => hl (.inr ⟨a, rfl, hne⟩))
  | _ => rfl

/-- Completing an instruction's writes changes words of Common Memory alone; which, says `WroteWords` (log 19). -/
theorem State.settle_frame (s : State) : Frame (fun l => ∃ a, l = .cm a) s s.settle := by
  unfold State.settle
  split
  · exact s.land_frame.mono fun l ⟨a, ha, _⟩ => ⟨a, ha⟩
  · intro l _
    cases l with
    | cm a => exact ⟨rfl, rfl⟩
    | _ => rfl

theorem State.noteRead_frame (s : State) (a : Nat) (x : LoadDest) : Frame (· = .reads) s (s.noteRead a x) := by
  intro l hl
  cases l with
  | reads => exact absurd rfl hl
  | cm b => exact ⟨by simp, by rw [State.waiting, State.noteRead_writes, State.waiting]⟩
  | _ => simp [Agree]

theorem State.noteReads_frame (s u : State) (i : Reg) (addr : Elem → Addr) :
    Frame (· = .reads) u (s.noteReads i addr u) := by
  intro l hl
  cases l with
  | reads => exact absurd rfl hl
  | cm b => exact ⟨by simp, by rw [State.waiting, (s.noteReads_port i addr u).1, State.waiting]⟩
  | _ => simp [Agree]

/-- A store changes an S register only by overtaking an outstanding read of its address (R71 iv, D6; log 17). -/
theorem State.storeWord_S (s : State) (e a : Nat) (v : Word) (n : Reg) :
    (s.storeWord e a v).S n = s.S n ∨ ((s.storeWord e a v).S n = v ∧ AwaitingLoc s a (.s n)) := by
  refine (State.overtake_S s.draws e a v 0 s.port.reads s n).imp_right fun ⟨hv, r, hr, ha, hdest⟩ => ?_
  exact ⟨hv, r, hr, ha, by rw [hdest]⟩

/-- The same for an element of a V register. -/
theorem State.storeWord_V (s : State) (e a : Nat) (v : Word) (n : Reg) (x : Elem) :
    (s.storeWord e a v).V n x = s.V n x ∨ ((s.storeWord e a v).V n x = v ∧ AwaitingLoc s a (.v n x)) := by
  refine (State.overtake_V s.draws e a v 0 s.port.reads s n x).imp_right fun ⟨hv, r, hr, ha, hdest⟩ => ?_
  exact ⟨hv, r, hr, ha, by rw [hdest]⟩

theorem State.storeWord_frame (s : State) (e a : Nat) (v : Word) :
    Frame (fun l => (∃ b, l = .cm b) ∨ l = .dirty ∨ AwaitingLoc s a l) s (s.storeWord e a v) := by
  intro l hl
  cases l with
  | s n => exact (s.storeWord_S e a v n).resolve_right fun ⟨_, h⟩ => hl (.inr (.inr h))
  | v n x => exact (s.storeWord_V e a v n x).resolve_right fun ⟨_, h⟩ => hl (.inr (.inr h))
  | cm b => exact absurd (.inl ⟨b, rfl⟩) hl
  | dirty => simp at hl
  | _ => simp [Agree]

theorem State.storeElems_frame (s : State) (addr : Elem → Addr) (data : Elem → Word) :
    Frame (fun l => (∃ b, l = .cm b) ∨ l = .dirty ∨ ∃ e : Elem, e.val < s.vlen ∧ InRange s (s.cmAbs (addr e)) ∧
      AwaitingLoc s (s.cmAbs (addr e)).toNat l) s (s.storeElems addr data) := by
  intro l hl
  cases l with
  | s n =>
    refine (s.storeElems_S addr data n).resolve_right fun ⟨e, he, hf, hr, _⟩ => hl (.inr (.inr ?_))
    exact ⟨e, State.mem_elements.1 he, State.inField_iff.1 hf, _, hr, rfl, rfl⟩
  | v n x =>
    refine (s.storeElems_V addr data n x).resolve_right fun ⟨e, he, hf, hr, _⟩ => hl (.inr (.inr ?_))
    exact ⟨e, State.mem_elements.1 he, State.inField_iff.1 hf, _, hr, rfl, rfl⟩
  | cm b => exact absurd (.inl ⟨b, rfl⟩) hl
  | dirty => simp at hl
  | _ => simp [Agree]

/-! ## The words written -/

/-- The values waiting after the writes of a vector store (R70, R71). -/
theorem State.storeElems_waiting (s : State) (addr : Elem → Addr) (data : Elem → Word) (a : Nat) :
    (s.storeElems addr data).waiting a = s.waiting a ++
      ((((s.elements.filter (fun e => s.inField (s.cmAbs (addr e)))).map
        (fun e => ((s.cmAbs (addr e)).toNat, data e))).filter (fun c => c.1 = a)).map (·.2)) := by
  simp [State.waiting, List.filter_map, Function.comp_def]

/-- Writes that wait are all complete after `settle` under `CM_PROGRAM_ORDER`, and go on waiting otherwise (R71; log 19). -/
theorem wroteWords_settle {new : List (Nat × Word)} (hcm : u.cm = s.cm) (hparams : u.params = s.params)
    (hw : ∀ a, u.waiting a = s.waiting a ++ (new.filter (fun c => c.1 = a)).map (·.2)) :
    WroteWords s u.settle new := by
  intro a
  dsimp only
  rw [← hw a, ← hcm, ← hparams]
  cases ho : u.params.cmProgramOrder
  · simp [State.settle, ho]
  · simp only [State.settle, ho, if_true]
    exact ⟨u.land.waiting_empty rfl a, u.landed_read a⟩

theorem WroteWords.congr {new : List (Nat × Word)} (h : WroteWords s t new) (hcm : ∀ a, Agree (.cm a) t u) :
    WroteWords s u new := by
  intro a
  obtain ⟨hread, hwaiting⟩ := hcm a
  rw [hread, hwaiting]
  exact h a

/-- A word that is not written, and for which nothing waits where the writes complete at once, is as before. -/
theorem WroteWords.agree {new : List (Nat × Word)} (h : WroteWords s t new) {a : Nat} (hnew : ∀ x ∈ new, x.1 ≠ a)
    (hw : s.params.cmProgramOrder = true → s.waiting a = []) : Agree (.cm a) s t := by
  have hnone : new.filter (fun x => x.1 = a) = [] := by simpa using fun x y hx => hnew (x, y) hx
  have ha := h a
  simp only [hnone, List.map_nil, List.append_nil] at ha
  split_ifs at ha with ho hempty
  · exact ⟨ha.2, ha.1.trans hempty.symm⟩
  · exact absurd (hw ho) hempty
  · exact ⟨ha.2, ha.1⟩

/-- After stores the words that differ are those written and, where the writes complete at once, those that had waiting writes (R71; log 19). -/
theorem WroteWords.settle_frame {new : List (Nat × Word)} (h : WroteWords s u.settle new)
    (hframe : Frame (fun l => (∃ a, l = .cm a) ∨ c l) s u) :
    Frame (fun l => c l ∨ (∃ x ∈ new, l = .cm x.1) ∨ (s.params.cmProgramOrder = true ∧ WaitingLoc s l)) s u.settle := by
  intro l hl
  cases l with
  | cm a =>
    exact h.agree (fun x hx ha => hl (.inr (.inl ⟨x, hx, by rw [ha]⟩)))
      fun ho => by_contra fun hne => hl (.inr (.inr ⟨ho, a, rfl, hne⟩))
  | _ => exact (hframe.trans u.settle_frame) _ fun hc => hl (.inl (by simpa using hc))

end Sys2Proof.Machine
end

section
/-! The complete effects of 001 and 004 to 007: the memory hold and the semaphore. -/

namespace Sys2Proof.Machine

variable {s t u : State}

/-- A code below 100 decodes in the row of its middle octal digit (R90, R100). -/
theorem encodes_low {f : BitVec 7} {len : Nat} {g : Reg → Reg → Reg → Parcel → Parcel → Parcel → Parcel → Instr}
    (hlen : parcelCount f = len) (hlow : f[6] = false)
    (hrow : ∀ i j k m1 m2 m3 m4, decodeLow (f.extractLsb' 3 3).toFin (f.extractLsb' 0 3).toFin (parcelOf f i j k)
      m1 m2 m3 m4 = g i j k m1 m2 m3 m4) : Encodes f len g := by
  refine ⟨hlen, fun i j k m1 m2 m3 m4 => ?_⟩
  rw [decodeParcels_parcelOf, hlow, if_neg Bool.false_ne_true, hrow]

/-! ## 001 -/

/-- 001 completes every reference and goes on (R161, R71 i, R73). -/
theorem cmr_completes (s : State) :
    Completes (exec .cmr s) s (fun l => l = .p ∨ l = .reads ∨ WaitingLoc s l)
      (fun t => t.port = Port.empty ∧ Landed s t ∧ t.p = s.p + 1) :=
  ⟨_, rfl, ⟨rfl, fun a => s.landed_read a, rfl⟩,
    (s.quiesce_frame.trans (s.quiesce.advance_frame 1)).mono fun _ => by tauto⟩

/-- Settles O18: 001 leaves the port empty and the waiting writes landed. -/
theorem holdMemoryCompletesReferences : Obligations.HoldMemoryCompletesReferences :=
  ⟨encodes_low rfl rfl (by simp [decodeLow, decodeRow000]), cmr_completes⟩

/-! ## 004 to 007 -/

/-- An instruction that tests and sets the flag, and then does what writes P alone (R165 to R167). -/
theorem takeSem_completes {r : Result} (hr : r = .next t) (hframe : Frame (· = .p) s.takeSem t) {old : Bool}
    (hold : old = s.sem.get s.bps.semSelect) {p : Addr} (hp : t.p = p) :
    Completes r s (fun l => l = .p ∨ l = .sem s.bps.semSelect ∨ l = .semBit)
      (fun t => t.sem.get s.bps.semSelect = true ∧ t.bps.semBit = (if old then s.bps.semBit else true) ∧ t.p = p) := by
  have hflag : t.sem.get s.bps.semSelect = s.takeSem.sem.get s.bps.semSelect :=
    hframe (.sem s.bps.semSelect) (by simp)
  have hbit : t.bps.semBit = s.takeSem.bps.semBit := hframe .semBit (by simp)
  refine ⟨t, hr, ⟨by simpa using hflag, ?_, hp⟩, (s.takeSem_frame.trans hframe).mono fun _ => by tauto⟩
  rw [hbit, State.takeSem_bps, State.semf, ← hold]
  cases old <;> simp

/-- A branch takes P to its target or past its three parcels (R164). -/
theorem State.branch_p (u : State) (taken : Bool) (target : Addr) :
    (u.branch taken target).p = if taken then target else u.p + 3 := by
  cases taken <;> rfl

/-- Settles O23: the three instructions are one test and set, and differ in P. -/
theorem semaphoreIsTestedAndSet : Obligations.SemaphoreIsTestedAndSet := by
  refine ⟨encodes_low rfl rfl (by simp [decodeLow, decodeRow000]),
    encodes_low rfl rfl (by simp [decodeLow, decodeRow000]),
    encodes_low rfl rfl (by simp [decodeLow, decodeRow000]), fun s c old hold => ⟨?_, ?_, ?_⟩⟩
  · refine takeSem_completes rfl (s.takeSem.branch_frame _ c) hold ?_
    rw [State.branch_p, State.semf, ← hold]
    cases old <;> rfl
  · refine takeSem_completes rfl (s.takeSem.branch_frame _ c) hold ?_
    rw [State.branch_p, State.semf, ← hold]
    rfl
  · exact takeSem_completes rfl (s.takeSem.advance_frame 1) hold rfl

/-- Settles O24: 007 lands the waiting writes, then drops the flag. -/
theorem clearingTheSemaphoreCompletesWrites : Obligations.ClearingTheSemaphoreCompletesWrites := by
  refine ⟨encodes_low rfl rfl (by simp [decodeLow, decodeRow000]), fun s => ?_⟩
  refine ⟨_, rfl, ⟨?_, rfl, rfl, fun a => s.landed_read a, rfl⟩, ?_⟩
  · simp
  · have hframe := (s.land_frame.trans s.land.dropSem_frame).trans (s.land.dropSem.advance_frame 1)
    exact hframe.mono fun l => by rw [State.land_bps]; tauto

end Sys2Proof.Machine
end

section
/-! The Local Memory references, 044 to 047, 054 to 057, 074 and 075. -/

namespace Sys2Proof.Machine

variable {s t u : State}

/-! ## The place of an address -/

theorem State.lmSlot_of_place {a : Addr} {n : Nat} (h : LmPlace s a n) : s.lmSlot a = some n := by
  obtain ⟨ha, rfl⟩ | ⟨ha, hmode, rfl⟩ := h
  · simp [State.lmSlot, ha]
  · simp [State.lmSlot, hmode, Nat.not_lt.2 ha]

theorem State.lmSlot_of_nowhere {a : Addr} (h : LmNowhere s a) : s.lmSlot a = none := by
  obtain ⟨ha, hmode⟩ := h
  simp [State.lmSlot, hmode, Nat.not_lt.2 ha]

theorem withLm_of_place {a : Addr} {n : Nat} (h : LmPlace s a n) (k : Nat → State) : withLm a s k = .next (k n) := by
  rw [withLm, State.lmSlot_of_place h]

theorem withLm_of_nowhere {a : Addr} (h : LmNowhere s a) (k : Nat → State) :
    withLm a s k = .fault .localMemoryAddress := by
  rw [withLm, State.lmSlot_of_nowhere h]

/-- A place is the low 14 bits of its address. -/
theorem LmPlace.eq_mod {a : Addr} {n : Nat} (h : LmPlace s a n) : n = a.toNat % 16384 := by
  obtain ⟨ha, rfl⟩ | ⟨-, -, rfl⟩ := h
  · exact (Nat.mod_eq_of_lt ha).symm
  · rfl

/-- The elements of a vector reference have places of their own: 64 consecutive addresses differ in their low 14 bits. -/
theorem LmPlace.elem_injective {a : Addr} {d e : Elem} {n : Nat} (hd : LmPlace s (a + BitVec.ofNat 32 d.val) n)
    (he : LmPlace s (a + BitVec.ofNat 32 e.val) n) : d = e := by
  have hde := hd.eq_mod.symm.trans he.eq_mod
  have hdlt := d.isLt
  have helt := e.isLt
  simp only [BitVec.toNat_add, BitVec.toNat_ofNat] at hde
  exact Fin.ext (by omega)

/-! ## One word -/

/-- The low-order 32 bits of a word as a number modulo 2^32 (R123). -/
theorem low32_eq (w : Word) : low32 w = BitVec.ofNat 32 w.toNat := by
  apply BitVec.eq_of_toNat_eq
  simp [low32]

theorem lmLoadA_writes {a : Addr} {n : Nat} (h : LmPlace s a n) (i : Reg) (len : Nat) :
    WritesA (withLm a s fun n => (s.setA i (low32 (s.lm.read n))).advance len) s i
      (BitVec.ofNat 32 (s.lm.read n).toNat) len := by
  rw [withLm_of_place h, low32_eq]
  exact ⟨_, rfl, ⟨by simp, rfl⟩, ((s.setA_frame i _).trans (State.advance_frame _ len)).mono fun _ => by tauto⟩

theorem lmLoadS_writes {a : Addr} {n : Nat} (h : LmPlace s a n) (i : Reg) (len : Nat) :
    WritesS (withLm a s fun n => (s.setS i (s.lm.read n)).advance len) s i (s.lm.read n) len := by
  rw [withLm_of_place h]
  exact ⟨_, rfl, ⟨by simp, rfl⟩, ((s.setS_frame i _).trans (State.advance_frame _ len)).mono fun _ => by tauto⟩

theorem lmStore_completes {a : Addr} {n : Nat} (h : LmPlace s a n) (v : Word) (len : Nat) :
    Completes (withLm a s fun n => (s.lmWrite n v).advance len) s (fun l => l = .p ∨ l = .lm n)
      (fun t => t.lm.read n = v ∧ t.p = s.p + BitVec.ofNat 32 len) := by
  rw [withLm_of_place h]
  exact ⟨_, rfl, ⟨by simp, rfl⟩, ((s.lmWrite_frame n v).trans (State.advance_frame _ len)).mono fun _ => by tauto⟩

/-- Settles O29: the four loads are two shapes at two kinds of address. -/
theorem localMemoryLoads : Obligations.LocalMemoryLoads :=
  ⟨encodes_low rfl rfl (by simp [decodeLow, decodeRow040]), encodes_low rfl rfl (by simp [decodeLow, decodeRow040]),
    encodes_low rfl rfl (by simp [decodeLow, decodeRow050]), encodes_low rfl rfl (by simp [decodeLow, decodeRow050]),
    fun _ i _ _ _ => ⟨fun h => ⟨lmLoadA_writes h i 2, lmLoadS_writes h i 2⟩,
      fun h => ⟨lmLoadA_writes h i 1, lmLoadS_writes h i 1⟩⟩⟩

/-- Settles O30: the four stores are one shape, of a sign-extended A register or of an S register. -/
theorem localMemoryStores : Obligations.LocalMemoryStores :=
  ⟨encodes_low rfl rfl (by simp [decodeLow, decodeRow040]), encodes_low rfl rfl (by simp [decodeLow, decodeRow040]),
    encodes_low rfl rfl (by simp [decodeLow, decodeRow050]), encodes_low rfl rfl (by simp [decodeLow, decodeRow050]),
    fun s i j k _ _ =>
      ⟨fun h => ⟨lmStore_completes h (sext64 (s.A k)) 2, lmStore_completes h (s.S j) 2⟩,
        fun h => ⟨lmStore_completes h (sext64 (s.A j)) 1, lmStore_completes h (s.S i) 1⟩⟩⟩

/-! ## One word for each element -/

/-- The place that a vector reference uses for an element whose address has one. -/
theorem State.lmPlace_eq {a : Addr} {e : Elem} {n : Nat} (h : LmPlace s (a + BitVec.ofNat 32 e.val) n) :
    s.lmPlace a e = n := by
  rw [State.lmPlace, State.lmSlot_of_place h, Option.getD_some]

theorem State.lmBad_false {a : Addr} {place : Elem → Nat}
    (h : ∀ e : Elem, e.val < s.vlen → LmPlace s (a + BitVec.ofNat 32 e.val) (place e)) : s.lmBad a = false := by
  refine List.any_eq_false.2 fun e he => ?_
  simp [State.lmSlot_of_place (h e (State.mem_elements.1 he))]

theorem State.lmBad_true {a : Addr} {e : Elem} (he : e.val < s.vlen)
    (h : LmNowhere s (a + BitVec.ofNat 32 e.val)) : s.lmBad a = true :=
  List.any_eq_true.2 ⟨e, State.mem_elements.2 he, by simp [State.lmSlot_of_nowhere h]⟩

/-- Where writes to different places are by different items, each item's word is there after them. -/
theorem Memory.read_foldl_write_of_injective {α : Type} (l : List α) (addr : α → Nat) (val : α → Word) (m : Memory)
    (hinj : ∀ x ∈ l, ∀ y ∈ l, addr x = addr y → x = y) {x : α} (hx : x ∈ l) :
    (l.foldl (fun m x => m.write (addr x) (val x)) m).read (addr x) = val x := by
  induction l generalizing m with
  | nil => cases hx
  | cons y l ih =>
    rw [List.foldl_cons]
    by_cases hxl : x ∈ l
    · exact ih _ (fun z hz w hw => hinj z (by simp [hz]) w (by simp [hw])) hxl
    · obtain rfl : x = y := (List.mem_cons.1 hx).resolve_right hxl
      have hother : ∀ z ∈ l, addr z ≠ addr x := fun z hz h => hxl (hinj z (by simp [hz]) x hx h ▸ hz)
      rw [Memory.read_foldl_write_other _ _ _ _ hother, Memory.read_write, if_pos rfl]

/-- 074 reads the words at the places of the elements in force (R230). -/
theorem loadVLm_writes {i k : Reg} {place : Elem → Nat}
    (h : ∀ e : Elem, e.val < s.vlen → LmPlace s (s.A k + BitVec.ofNat 32 e.val) (place e)) :
    WritesV (exec (.loadVLm i k) s) s i (fun e => s.lm.read (place e)) := by
  change WritesV (execLoadVLm i k s) s i _
  rw [execLoadVLm, State.lmBad_false h, if_neg Bool.false_ne_true]
  refine ⟨_, rfl, ⟨fun e he => ?_, rfl⟩,
    ((s.writeElems_frame i s.vlen _).trans (State.advance_frame _ 1)).mono fun _ => by tauto⟩
  simp [he, State.lmPlace_eq (h e he)]

/-- 075 writes the words at the places of the elements in force (R231). -/
theorem storeVLm_completes {i k : Reg} {place : Elem → Nat}
    (h : ∀ e : Elem, e.val < s.vlen → LmPlace s (s.A k + BitVec.ofNat 32 e.val) (place e)) :
    Completes (exec (.storeVLm i k) s) s (fun l => l = .p ∨ ∃ e : Elem, e.val < s.vlen ∧ l = .lm (place e))
      (fun t => (∀ e : Elem, e.val < s.vlen → t.lm.read (place e) = s.V i e) ∧ t.p = s.p + 1) := by
  change Completes (execStoreVLm i k s) s _ _
  rw [execStoreVLm, State.lmBad_false h, if_neg Bool.false_ne_true]
  refine ⟨_, rfl, ⟨fun e he => ?_, rfl⟩, ?_⟩
  · rw [← State.lmPlace_eq (h e he)]
    refine Memory.read_foldl_write_of_injective s.elements _ (s.V i) s.lm (fun d hd c hc hdc => ?_)
      (State.mem_elements.2 he)
    have hplace := h d (State.mem_elements.1 hd)
    rw [State.lmPlace_eq hplace, State.lmPlace_eq (h c (State.mem_elements.1 hc))] at hdc
    exact hplace.elem_injective (hdc ▸ h c (State.mem_elements.1 hc))
  · refine ((s.lmWriteElems_frame (s.A k) (s.V i)).trans (State.advance_frame _ 1)).mono ?_
    rintro l (⟨e, he, rfl⟩ | hp)
    · exact .inr ⟨e, he, by rw [State.lmPlace_eq (h e he)]⟩
    · exact .inl hp

/-- Settles O31: the elements in force have places of their own, so each is read from or written to its place. -/
theorem localMemoryVectorReferences : Obligations.LocalMemoryVectorReferences :=
  ⟨encodes_low rfl rfl (by simp [decodeLow, decodeRow070]), encodes_low rfl rfl (by simp [decodeLow, decodeRow070]),
    fun _ _ _ _ h => ⟨loadVLm_writes h, storeVLm_completes h⟩⟩

/-- Settles O32: an address that leads nowhere stops the reference. -/
theorem badLocalMemoryAddressFaults : Obligations.BadLocalMemoryAddressFaults := by
  refine ⟨fun s i k m h => ?_, fun s i k h => ?_, fun s i k e he h => ?_⟩
  · exact ⟨withLm_of_nowhere h _, withLm_of_nowhere h _, withLm_of_nowhere h _, withLm_of_nowhere h _⟩
  · exact ⟨withLm_of_nowhere h _, withLm_of_nowhere h _, withLm_of_nowhere h _, withLm_of_nowhere h _⟩
  · exact ⟨if_pos (State.lmBad_true he h), if_pos (State.lmBad_true he h)⟩

end Sys2Proof.Machine
end

section
/-! Instruction fetch: where a parcel comes from, and what a step does where parcels lie outside the field. With it, the two ends of a range error. -/

namespace Sys2Proof.Machine

variable {s t u : State}

/-! ## A range error -/

/-- A range error with the halt disabled: the signal is sent and the program goes on (R61, R63). -/
theorem rangeSignalled_of_frame {extra : Loc → Prop} {post : State → Prop} {len : Nat} (hframe : Frame extra s u)
    (hp : ¬ extra .p) (hen : u.bps.rangeHaltEnable = false) (hpost : post (u.signalRange.advance len)) :
    RangeSignalled (.next (u.completeRef true len)) s len extra post := by
  have he : u.completeRef true len = u.signalRange.advance len := by simp [State.completeRef, hen]
  have hup : u.p = s.p := hframe .p hp
  rw [he]
  refine ⟨_, rfl, ⟨hpost, rfl, by simp [hup]⟩, ?_⟩
  exact ((hframe.trans u.signalRange_frame).trans (State.advance_frame _ len)).mono fun _ => by tauto

/-- A range error with the halt enabled: the signal is sent and the processor stops (R343). -/
theorem rangeHalted_of_frame {extra : Loc → Prop} {post : State → Prop} {len : Nat} (hframe : Frame extra s u)
    (hp : ¬ extra .p) (hcm : ∀ a, ¬ extra (.cm a)) (hpost : post (u.signalRange.stop .haltedRange len)) :
    RangeHalted (.next (u.signalRange.stop .haltedRange len)) s len extra post := by
  have hup : u.p = s.p := hframe .p hp
  have hwaiting : ∀ a, u.waiting a = s.waiting a := fun a => (hframe (.cm a) (hcm a)).2
  have hread : ∀ a, u.cm.read a = s.cm.read a := fun a => (hframe (.cm a) (hcm a)).1
  refine ⟨_, rfl, ⟨hpost, rfl, ?_, fun a => ?_⟩, ?_⟩
  · have hstop := u.signalRange.stop_stopped .haltedRange len
    rwa [Stopped, State.signalRange_p, hup] at hstop
  · rw [← hwaiting, ← hread]
    exact u.landed_read a
  · refine ((hframe.trans u.signalRange_frame).trans (u.signalRange.stop_frame .haltedRange len)).mono ?_
    rintro l ((h | h) | h | ⟨a, rfl, h⟩)
    · exact .inr (.inr (.inr h))
    · exact .inr (.inr (.inl h))
    · exact .inl h
    · exact .inr (.inl ⟨a, rfl, hwaiting a ▸ h⟩)

/-! ## One parcel -/

/-- A parcel of a word counted from its high end, and from its low end (R55, D1). -/
theorem toNat_parcelIn (order : ParcelOrder) (w : Word) (q : Nat) :
    (parcelIn order w q).toNat = w.toNat / 2 ^ parcelShift order q % 2 ^ 16 := by
  simp [parcelIn, Nat.shiftRight_eq_div_pow]

theorem parcelNumber_eq (p : Addr) : parcelNumber p = p.toNat % 4 := by
  simp [parcelNumber]

/-- A fetch in the field (R54 to R57, R77). -/
theorem State.fetchParcel_in {p : Addr} (h : InRange s (s.parcelWord p)) :
    s.fetchParcel p =
      { parcel := parcelIn s.params.parcelOrder (s.cm.read (s.parcelWord p).toNat) (parcelNumber p)
        outOfField := false
        missing := s.missing (s.parcelWord p)
        stale := s.dirty.contains (s.parcelWord p).toNat } := by
  unfold State.fetchParcel
  rw [if_pos (State.inField_iff.2 h)]

/-- An address in the field lacks storage exactly at and above `CM_WORDS` (R52; log 42). -/
theorem State.missing_iff {a : Addr} : s.missing a = true ↔ InRange s a ∧ s.params.cmWords ≤ a.toNat := by
  simp [State.missing, State.inField_iff]

/-- Settles O5: the word is at BA + p/4, and the parcel is a group of 16 of its bits. -/
theorem fetchIsRelocatedAndChecked : Obligations.FetchIsRelocatedAndChecked := by
  intro s p a ha
  rw [← State.parcelWord_eq] at ha
  subst ha
  refine ⟨fun hin => ?_, fun hout => ?_⟩
  · rw [State.fetchParcel_in hin]
    refine ⟨rfl, by simp, ?_, fun ho => ?_, fun ho => ?_⟩
    · exact State.missing_iff.trans (and_iff_right hin)
    · rw [toNat_parcelIn, parcelNumber_eq, ho, parcelShift]
    · rw [toNat_parcelIn, parcelNumber_eq, ho, parcelShift]
  · rw [State.fetchParcel_out hout]
    exact ⟨rfl, rfl⟩

/-! ## A step whose parcels are not all in the field -/

/-- A fetch range error halts the processor in place of the instruction, or is signalled and the instruction done (R57, R347 c; log 13). -/
theorem step_of_fetch_out (hrun : s.run = .running)
    (hgood : ∀ f ∈ s.fetched, f.stale = false ∧ f.missing = false) (hout : ∃ f ∈ s.fetched, f.outOfField = true) :
    step s = if s.bps.rangeHaltEnable then .next (s.tick.signalRange.stop .haltedRange s.fetched.length)
      else exec (decodeFetched s.fetched) (s.tick.signalRange.issue (decodeFetched s.fetched)) := by
  have hstale : s.fetched.any (·.stale) = false := List.any_eq_false.2 fun f hf => by simp [hgood f hf]
  have hmissing : s.fetched.any (·.missing) = false := List.any_eq_false.2 fun f hf => by simp [hgood f hf]
  have houtAny : s.fetched.any (·.outOfField) = true := List.any_eq_true.2 hout
  simp [step, hrun, hstale, hmissing, houtAny]

/-- Outside the field at P there is the zero parcel alone, which is `err` (R57, R100, D20). -/
theorem State.fetched_of_out (h : ¬ InRange s (s.parcelWord s.p)) :
    s.fetched = [{ parcel := 0, outOfField := true, missing := false, stale := false }] := by
  unfold State.fetched
  rw [State.fetchParcel_out h]
  rfl

theorem decodeFetched_zero :
    decodeFetched [{ parcel := 0, outOfField := true, missing := false, stale := false }] = .err :=
  rfl

/-- With P outside the field the step halts, or is the error exit (R57, R160, D20). -/
theorem step_of_p_out (hrun : s.run = .running) (hout : ¬ InRange s (s.parcelWord s.p)) :
    step s = if s.bps.rangeHaltEnable then .next (s.tick.signalRange.stop .haltedRange 1)
      else .next ((s.tick.signalRange.issue .err).exitWith 0) := by
  have hfetched := State.fetched_of_out hout
  rw [step_of_fetch_out hrun (by simp [hfetched]) (by simp [hfetched]), hfetched, decodeFetched_zero]
  rfl

/-- With some of the parcels of the instruction at P outside the field, and so read as zero, the step halts, or does the instruction (R57, R347 c; log 13). -/
theorem step_of_decode_out {ps : List Parcel} {x : Instr} (hrun : s.run = .running) (hdecode : decode ps = .ok (x, []))
    (hps : ∀ (q : Nat) (h : q < ps.length),
      (s.fetchParcel (s.p + BitVec.ofNat 32 q)).parcel = ps[q] ∧
      (s.fetchParcel (s.p + BitVec.ofNat 32 q)).missing = false ∧
      (s.fetchParcel (s.p + BitVec.ofNat 32 q)).stale = false)
    (hout : ∃ q, q < ps.length ∧ ¬ InRange s (s.parcelWord (s.p + BitVec.ofNat 32 q))) :
    step s = if s.bps.rangeHaltEnable then .next (s.tick.signalRange.stop .haltedRange ps.length)
      else exec x (s.tick.signalRange.issue x) := by
  obtain ⟨hfetched, hx⟩ := State.fetched_of_decode hdecode fun q hq => (hps q hq).1
  have hmem : ∀ f, f ∈ s.fetched ↔ ∃ q, q < ps.length ∧ s.fetchParcel (s.p + BitVec.ofNat 32 q) = f := by
    simp [hfetched]
  have hgood : ∀ f ∈ s.fetched, f.stale = false ∧ f.missing = false := by
    intro f hf
    obtain ⟨q, hq, rfl⟩ := (hmem f).1 hf
    obtain ⟨-, hmissing, hstale⟩ := hps q hq
    exact ⟨hstale, hmissing⟩
  have hbad : ∃ f ∈ s.fetched, f.outOfField = true := by
    obtain ⟨q, hq, hout⟩ := hout
    exact ⟨_, (hmem _).2 ⟨q, hq, rfl⟩, by rw [State.fetchParcel_out hout]⟩
  have hlen : s.fetched.length = ps.length := by simp [hfetched]
  rw [step_of_fetch_out hrun hgood hbad, hx, hlen]

/-- Settles O6: at P the zero parcel is an error exit; at a constant parcel the halt comes in place of the instruction, or the instruction is done with the parcel read as zero. -/
theorem fetchOutOfFieldEndsTheRun : Obligations.FetchOutOfFieldEndsTheRun := by
  refine ⟨fun s hrun hout => ?_, fun s ps x hrun hdecode hps hout => ?_⟩
  · rw [← State.parcelWord_eq] at hout
    rw [step_of_p_out hrun hout]
    cases hen : s.bps.rangeHaltEnable
    · exact ⟨_, rfl, rfl, rfl, rfl, rfl, fun _ => ⟨rfl, rfl, rfl⟩, by simp⟩
    · exact ⟨_, rfl, rfl, rfl, rfl, rfl, by simp, fun _ => ⟨rfl, rfl, rfl⟩⟩
  · simp only [← State.parcelWord_eq] at hout
    rw [step_of_decode_out hrun hdecode hps hout]
    refine ⟨fun hen => ?_, fun hen => by simp [hen]⟩
    rw [if_pos hen]
    exact rangeHalted_of_frame s.tick_frame (by simp) (by simp) trivial

/-- A fetch of a parcel where no storage is installed faults, unless some parcel is stale (R52; log 42). -/
theorem step_of_fetch_missing (hrun : s.run = .running) (hstale : ∀ f ∈ s.fetched, f.stale = false)
    (hmissing : ∃ f ∈ s.fetched, f.missing = true) : step s = .fault .beyondInstalledMemory := by
  have hstaleAny : s.fetched.any (·.stale) = false := List.any_eq_false.2 fun f hf => by simp [hstale f hf]
  have hmissingAny : s.fetched.any (·.missing) = true := List.any_eq_true.2 hmissing
  simp [step, hrun, hstaleAny, hmissingAny]

end Sys2Proof.Machine
end

section
/-! The scalar references to Common Memory, 060 to 067. -/

namespace Sys2Proof.Machine

variable {s t u : State}

theorem State.missing_of_installed {a : Addr} (h : Installed s a) : s.missing a = false := by
  rw [Bool.eq_false_iff, ne_eq, State.missing_iff]
  exact fun hm => Nat.not_le.2 h.2 hm.2

theorem State.missing_of_out {a : Addr} (h : ¬ InRange s a) : s.missing a = false := by
  rw [Bool.eq_false_iff, ne_eq, State.missing_iff]
  exact fun hm => h hm.1

/-! ## In the field -/

theorem loadWord_of_installed {r : Addr} (h : Installed s (s.cmAbs r)) (i : Reg) (len : Nat) :
    loadWord i r len s =
      .next (((s.setS i (s.cmLoad 0 (s.cmAbs r).toNat)).noteRead (s.cmAbs r).toNat (.s i)).advance len) := by
  simp [loadWord, State.missing_of_installed h, State.inField_iff.2 h.1]

theorem writeWord_of_installed {r : Addr} (h : Installed s (s.cmAbs r)) (v : Word) (len : Nat) :
    writeWord r v len s = .next ((s.storeWord 0 (s.cmAbs r).toNat v).settle.advance len) := by
  simp [writeWord, State.missing_of_installed h, State.inField_iff.2 h.1]

/-- A load in the field reads a word that memory may deliver and leaves the read outstanding (R61, R71; log 17). -/
theorem loadWord_reads {r : Addr} (h : Installed s (s.cmAbs r)) (i : Reg) (len : Nat) :
    ReadsWord (loadWord i r len s) s i (s.cmAbs r) len := by
  rw [loadWord_of_installed h]
  refine ⟨_, rfl, ⟨?_, fun hquiet => ?_, ?_, ?_⟩, ?_⟩
  · simpa using s.cmLoad_mayLoad 0 (s.cmAbs r).toNat
  · simpa using State.cmLoad_quiet 0 hquiet
  · exact State.noteRead_reads _ _ _
  · simp
  · exact (((s.setS_frame i _).trans (State.noteRead_frame _ _ _)).trans (State.advance_frame _ len)).mono
      fun _ => by tauto

/-- The word written by one store (R71; log 19). -/
theorem storeWord_settle_wroteWords (s : State) (a : Nat) (v : Word) :
    WroteWords s (s.storeWord 0 a v).settle [(a, v)] := by
  refine wroteWords_settle (s.storeWord_cm 0 a v) (s.storeWord_params 0 a v) fun b => ?_
  rw [State.storeWord_waiting]
  by_cases hb : a = b <;> simp [hb]

/-- A store in the field writes its word, counts it as stored to, and may be delivered to reads of it (R61, R71, R77; log 17, log 22). -/
theorem writeWord_stores {r : Addr} (h : Installed s (s.cmAbs r)) (v : Word) (len : Nat) :
    StoresWord (writeWord r v len s) s (s.cmAbs r) v len := by
  rw [writeWord_of_installed h]
  have hwrote := storeWord_settle_wroteWords s (s.cmAbs r).toNat v
  refine ⟨_, rfl, ⟨hwrote, fun b => ?_, fun n => ?_, fun n x => ?_, ?_⟩, ?_⟩
  · simp [or_comm]
  · simpa using (s.storeWord_S 0 (s.cmAbs r).toNat v n).imp_right And.left
  · simpa using (s.storeWord_V 0 (s.cmAbs r).toNat v n x).imp_right And.left
  · simp
  · have hframe := (hwrote.settle_frame (s.storeWord_frame 0 (s.cmAbs r).toNat v)).trans (State.advance_frame _ len)
    refine hframe.mono fun l => ?_
    simp only [List.mem_singleton, exists_eq_left]
    tauto

/-- Settles O34: the four loads are one shape at four addresses. -/
theorem commonMemoryLoads : Obligations.CommonMemoryLoads :=
  ⟨encodes_low rfl rfl (by simp [decodeLow, decodeRow060]), encodes_low rfl rfl (by simp [decodeLow, decodeRow060]),
    encodes_low rfl rfl (by simp [decodeLow, decodeRow060]), encodes_low rfl rfl (by simp [decodeLow, decodeRow060]),
    fun _ i _ _ _ => ⟨fun h => loadWord_reads h i 1, fun h => loadWord_reads h i 1, fun h => loadWord_reads h i 3,
      fun h => loadWord_reads h i 3⟩⟩

/-- Settles O35: the four stores are one shape at four addresses. -/
theorem commonMemoryStores : Obligations.CommonMemoryStores :=
  ⟨encodes_low rfl rfl (by simp [decodeLow, decodeRow060]), encodes_low rfl rfl (by simp [decodeLow, decodeRow060]),
    encodes_low rfl rfl (by simp [decodeLow, decodeRow060]), encodes_low rfl rfl (by simp [decodeLow, decodeRow060]),
    fun s i _ _ _ => ⟨fun h => writeWord_stores h (s.S i) 1, fun h => writeWord_stores h (s.S i) 1,
      fun h => writeWord_stores h (s.S i) 3, fun h => writeWord_stores h (s.S i) 3⟩⟩

/-! ## Out of the field -/

theorem loadWord_of_out {r : Addr} (h : ¬ InRange s (s.cmAbs r)) (i : Reg) (len : Nat) :
    loadWord i r len s = .next ((s.setS i 0).completeRef true len) := by
  simp [loadWord, State.missing_of_out h, mt State.inField_iff.1 h]

theorem writeWord_of_out {r : Addr} (h : ¬ InRange s (s.cmAbs r)) (v : Word) (len : Nat) :
    writeWord r v len s = .next (s.completeRef true len) := by
  simp [writeWord, State.missing_of_out h, mt State.inField_iff.1 h]

/-- The end of a reference out of the field with the halt enabled (R343). -/
theorem State.completeRef_of_halt (u : State) (len : Nat) (hen : u.bps.rangeHaltEnable = true) :
    u.completeRef true len = u.signalRange.stop .haltedRange len := by
  simp [State.completeRef, hen]

/-- A load out of the field reads zero, and is signalled or halts (R61, R63, R343). -/
theorem loadWord_out {r : Addr} (h : ¬ InRange s (s.cmAbs r)) (i : Reg) (len : Nat) :
    (s.bps.rangeHaltEnable = false →
      RangeSignalled (loadWord i r len s) s len (fun l => l = .s i) (fun t => t.S i = 0)) ∧
    (s.bps.rangeHaltEnable = true →
      RangeHalted (loadWord i r len s) s len (fun l => l = .s i) (fun t => t.S i = 0)) := by
  rw [loadWord_of_out h]
  refine ⟨fun hen => rangeSignalled_of_frame (s.setS_frame i 0) (by simp) hen (by simp), fun hen => ?_⟩
  rw [State.completeRef_of_halt (s.setS i 0) len hen]
  exact rangeHalted_of_frame (s.setS_frame i 0) (by simp) (by simp) (by simp)

/-- A store out of the field is dropped, and is signalled or halts (R61, R63, R343). -/
theorem writeWord_out {r : Addr} (h : ¬ InRange s (s.cmAbs r)) (v : Word) (len : Nat) :
    (s.bps.rangeHaltEnable = false →
      RangeSignalled (writeWord r v len s) s len (fun _ => False) (fun _ => True)) ∧
    (s.bps.rangeHaltEnable = true →
      RangeHalted (writeWord r v len s) s len (fun _ => False) (fun _ => True)) := by
  rw [writeWord_of_out h]
  refine ⟨fun hen => rangeSignalled_of_frame (.refl s) id hen trivial, fun hen => ?_⟩
  rw [s.completeRef_of_halt len hen]
  exact rangeHalted_of_frame (.refl s) id (fun _ => id) trivial

/-- Settles O36: the eight references are two shapes at four addresses. -/
theorem scalarReferenceOutOfField : Obligations.ScalarReferenceOutOfField :=
  fun s i _ _ _ => ⟨fun h => loadWord_out h i 1, fun h => loadWord_out h i 1, fun h => loadWord_out h i 3,
    fun h => loadWord_out h i 3, fun h => writeWord_out h (s.S i) 1, fun h => writeWord_out h (s.S i) 1,
    fun h => writeWord_out h (s.S i) 3, fun h => writeWord_out h (s.S i) 3⟩

/-! ## Store, hold, load -/

theorem ScalarStore.exec_eq {x : Instr} {i : Reg} {a : Addr} (h : ScalarStore s x i a) :
    ∃ r len, a = s.cmAbs r ∧ exec x s = writeWord r (s.S i) len s := by
  obtain ⟨j, k, rfl, rfl⟩ | ⟨k, rfl, rfl⟩ | ⟨k, c, rfl, rfl⟩ | ⟨c, rfl, rfl⟩ := h
  · exact ⟨s.sumAddr j k, 1, rfl, rfl⟩
  · exact ⟨s.regAddr k, 1, rfl, rfl⟩
  · exact ⟨s.dispAddr k c, 3, rfl, rfl⟩
  · exact ⟨c, 3, rfl, rfl⟩

theorem ScalarLoad.exec_eq {x : Instr} {i : Reg} {a : Addr} (h : ScalarLoad s x i a) :
    ∃ r len, a = s.cmAbs r ∧ exec x s = loadWord i r len s := by
  obtain ⟨j, k, rfl, rfl⟩ | ⟨k, rfl, rfl⟩ | ⟨k, c, rfl, rfl⟩ | ⟨c, rfl, rfl⟩ := h
  · exact ⟨s.sumAddr j k, 1, rfl, rfl⟩
  · exact ⟨s.regAddr k, 1, rfl, rfl⟩
  · exact ⟨s.dispAddr k c, 3, rfl, rfl⟩
  · exact ⟨c, 3, rfl, rfl⟩

/-- A load has the same address in states with the same A registers and BA (R64). -/
theorem ScalarLoad.congr {x : Instr} {i : Reg} {a : Addr} (h : ScalarLoad s x i a) (hA : ∀ n, t.A n = s.A n)
    (hba : t.ba = s.ba) : ScalarLoad t x i a := by
  simpa only [ScalarLoad, hA, hba] using h

theorem Installed.congr {a : Addr} (h : Installed s a) (hfield : SameField s t) : Installed t a := by
  obtain ⟨hba, hla, -, hparams⟩ := hfield
  simpa only [Installed, InRange, hba, hla, hparams] using h

/-- An outstanding read delivers to an S register or to an element of a V register. -/
theorem AwaitingLoc.register {a : Nat} {l : Loc} (h : AwaitingLoc s a l) : (∃ n, l = .s n) ∨ ∃ n e, l = .v n e := by
  obtain ⟨⟨b, dest⟩, -, -, hdest⟩ := h
  cases dest with
  | s n => exact .inl ⟨n, hdest⟩
  | v n e => exact .inr ⟨n, e, hdest⟩

/-- Where nothing waits, a stored word is the only value that is in memory once the waiting writes are complete (R71, R73). -/
theorem WroteWords.landed_single {a : Nat} {v : Word} (hwrote : WroteWords s t [(a, v)]) (hquiet : s.waiting a = [])
    (hland : Landed t u) : u.cm.read a = v := by
  have hw := hwrote a
  have hl := hland a
  simp only [hquiet, decide_true, List.filter_cons_of_pos, List.filter_nil, List.map_cons, List.map_nil,
    List.nil_append, List.cons_ne_nil, if_false, List.mem_singleton] at hw
  split_ifs at hw
  · rw [if_pos hw.1] at hl
    exact hl.trans hw.2
  · simpa [hw.1] using hl

/-- Settles O19: after the store only its word waits, 001 leaves it in memory, and with nothing waiting the load reads memory. -/
theorem storeHoldLoadReturnsTheStoredWord : Obligations.StoreHoldLoadReturnsTheStoredWord := by
  intro s x y i j a hx hy hin hquiet
  obtain ⟨r, len, rfl, hstore⟩ := hx.exec_eq
  obtain ⟨t, ht, ⟨hwrote, -⟩, hframe⟩ := writeWord_stores hin (s.S i) len
  rw [← hstore] at ht
  obtain ⟨u, hu, ⟨hport, hland, -⟩, hframe'⟩ := cmr_completes t
  have hA : ∀ n, u.A n = s.A n := by
    intro n
    have htA : t.A n = s.A n := hframe (.a n) fun h => by
      obtain h | h | h | h | ⟨-, b, h, -⟩ := h
      case inr.inr.inr.inl => obtain ⟨m, h⟩ | ⟨m, e, h⟩ := h.register <;> cases h
      all_goals cases h
    have huA : u.A n = t.A n := hframe' (.a n) (by simp [WaitingLoc])
    exact huA.trans htA
  have hfield : SameField s t := (exec_effect ht).sameField
  have hfield' : SameField t u := (exec_effect hu).sameField
  obtain ⟨r', len', ha, hload⟩ := (hy.congr hA (hfield'.1.trans hfield.1)).exec_eq
  have hinu := (hin.congr hfield).congr hfield'
  rw [ha] at hinu
  obtain ⟨w, hw, ⟨-, hread, -⟩, -⟩ := loadWord_reads hinu j len'
  refine ⟨t, u, w, ht, hu, hload.trans hw, ?_⟩
  rw [← ha] at hread
  rw [hread (u.waiting_empty (by rw [hport]; rfl) _)]
  exact hwrote.landed_single hquiet hland

end Sys2Proof.Machine
end

section
/-! The vector references to Common Memory, 070 to 073, and the references where no storage is installed. -/

namespace Sys2Proof.Machine

variable {s t u : State}

/-! ## The two shapes -/

/-- The instruction reads one word for each element in force into `V[i]`, element `e` from the absolute address `a e` (R226, R228, R234). -/
def ReadsElems (s : State) (x : Instr) (i : Reg) (a : Elem → Addr) : Prop :=
  ∃ addr, a = (fun e => s.cmAbs (addr e)) ∧ exec x s = loadElems i addr s

/-- The instruction writes the elements in force of `V[i]`, element `e` to the absolute address `a e` (R227, R229, R234). -/
def WritesElems (s : State) (x : Instr) (i : Reg) (a : Elem → Addr) : Prop :=
  ∃ addr, a = (fun e => s.cmAbs (addr e)) ∧ exec x s = writeElemsCm addr (s.V i) s

section Addresses

variable {i j k : Reg} {a : Elem → Addr}

theorem loadVStride_readsElems (ha : ∀ e : Elem, a e = s.ba + (s.A j + BitVec.ofNat 32 e.val * s.A k)) :
    ReadsElems s (.loadVStride i j k) i a :=
  ⟨s.strideAddr j k, funext ha, rfl⟩

theorem storeVStride_writesElems (ha : ∀ e : Elem, a e = s.ba + (s.A j + BitVec.ofNat 32 e.val * s.A k)) :
    WritesElems s (.storeVStride i j k) i a :=
  ⟨s.strideAddr j k, funext ha, rfl⟩

/-- An indexed address takes the low 32 bits of its offset (R64). -/
theorem State.cmAbs_indexAddr (s : State) (k : Reg) (offsets : Elem → Word) (e : Elem) :
    s.cmAbs (s.indexAddr k offsets e) = s.ba + (s.A k + BitVec.ofNat 32 (offsets e).toNat) := by
  rw [State.cmAbs, State.indexAddr, low32_eq]

/-- A gather is refused only where its offsets are its destination and `V_SRC_EQ_DST` is refuse (R291). -/
theorem gather_readsElems (hmode : i = j → s.params.vSrcEqDst ≠ .refuse)
    (ha : ∀ e : Elem, a e = s.ba + (s.A k + BitVec.ofNat 32 (s.stream i j e).toNat)) :
    ReadsElems s (.gather i j k) i a := by
  refine ⟨s.indexAddr k (s.stream i j), funext fun e => (ha e).trans (s.cmAbs_indexAddr k _ e).symm, ?_⟩
  change guardOverlap (decide (i = j)) s _ = _
  by_cases hij : i = j
  · exact guardOverlap_of_ne _ _ (hmode hij)
  · rw [decide_eq_false hij, guardOverlap_false]

theorem scatter_writesElems (ha : ∀ e : Elem, a e = s.ba + (s.A k + BitVec.ofNat 32 (s.V j e).toNat)) :
    WritesElems s (.scatter i j k) i a :=
  ⟨s.indexAddr k (s.V j), funext fun e => (ha e).trans (s.cmAbs_indexAddr k _ e).symm, rfl⟩

/-- 070 to 073 have one of the two shapes. -/
theorem VectorReference.shape {x : Instr} (h : VectorReference s x i a) : ReadsElems s x i a ∨ WritesElems s x i a := by
  obtain ⟨j, k, rfl | rfl, ha⟩ | ⟨j, k, rfl, hmode, ha⟩ | ⟨j, k, rfl, ha⟩ := h
  · exact .inl (loadVStride_readsElems ha)
  · exact .inr (storeVStride_writesElems ha)
  · exact .inl (gather_readsElems hmode ha)
  · exact .inr (scatter_writesElems ha)

end Addresses

/-! ## Which elements are out of the field or lack storage -/

theorem State.someOut_iff {addr : Elem → Addr} :
    s.someOut addr = true ↔ ∃ e : Elem, e.val < s.vlen ∧ ¬ InRange s (s.cmAbs (addr e)) := by
  simp [State.someOut, State.mem_elements, ← State.inField_iff]

theorem State.someMissing_iff {addr : Elem → Addr} :
    s.someMissing addr = true ↔
      ∃ e : Elem, e.val < s.vlen ∧ InRange s (s.cmAbs (addr e)) ∧ s.params.cmWords ≤ (s.cmAbs (addr e)).toNat := by
  simp [State.someMissing, State.mem_elements, State.missing_iff]

/-- Every element in force that is in the field is in installed memory. -/
def ElemsInstalled (s : State) (a : Elem → Addr) : Prop :=
  ∀ e : Elem, e.val < s.vlen → InRange s (a e) → (a e).toNat < s.params.cmWords

theorem ElemsInstalled.someMissing {addr : Elem → Addr} (h : ElemsInstalled s (fun e => s.cmAbs (addr e))) :
    s.someMissing addr = false := by
  rw [Bool.eq_false_iff, ne_eq, State.someMissing_iff]
  exact fun ⟨e, he, hin, hge⟩ => Nat.not_le.2 (h e he hin) hge

theorem loadElems_of_installed {addr : Elem → Addr} (h : ElemsInstalled s (fun e => s.cmAbs (addr e))) (i : Reg) :
    loadElems i addr s =
      .next ((s.noteReads i addr (s.writeElems i s.vlen (s.elemLoad addr))).completeRef (s.someOut addr) 1) := by
  rw [loadElems, h.someMissing, if_neg Bool.false_ne_true]

theorem writeElemsCm_of_installed {addr : Elem → Addr} (h : ElemsInstalled s (fun e => s.cmAbs (addr e)))
    (data : Elem → Word) :
    writeElemsCm addr data s = .next ((s.storeElems addr data).settle.completeRef (s.someOut addr) 1) := by
  rw [writeElemsCm, h.someMissing, if_neg Bool.false_ne_true]

/-! ## The end of a reference that does not halt -/

/-- Without a halt the end of a reference moves P and sends at most the signal (R61, R63). -/
theorem State.completeRef_goesOn (u : State) {err : Bool} (len : Nat)
    (hen : err = true → u.bps.rangeHaltEnable = false) :
    (u.completeRef err len).p = u.p + BitVec.ofNat 32 len ∧
      (err = true → (u.completeRef err len).bps.rangeError = true) ∧
      Frame (fun l => l = .p ∨ (l = .rangeError ∧ err = true)) u (u.completeRef err len) := by
  obtain ⟨rfl, e⟩ | ⟨rfl, -, e⟩ | ⟨rfl, hon, -⟩ := u.completeRef_cases err len
  · rw [e]
    exact ⟨rfl, by simp, (u.advance_frame len).mono fun _ => .inl⟩
  · rw [e]
    exact ⟨rfl, fun _ => rfl, (u.signalRange_frame.trans (State.advance_frame _ len)).mono fun _ => by tauto⟩
  · rw [hen rfl] at hon
    cases hon

/-- With the halt disabled or every element in the field, no range error halts the reference. -/
theorem halt_off_of_someOut {addr : Elem → Addr}
    (h : s.bps.rangeHaltEnable = false ∨ ∀ e : Elem, e.val < s.vlen → InRange s (s.cmAbs (addr e))) :
    s.someOut addr = true → s.bps.rangeHaltEnable = false := by
  rw [State.someOut_iff]
  rintro ⟨e, he, hout⟩
  exact h.resolve_right fun hall => hout (hall e he)

/-! ## Loads -/

/-- What an element in force reads: a word that memory may deliver, or zero out of the field (R61, R63, R71). -/
theorem State.elemLoad_in {addr : Elem → Addr} {e : Elem} (h : InRange s (s.cmAbs (addr e))) :
    s.elemLoad addr e = s.cmLoad e.val (s.cmAbs (addr e)).toNat := by
  rw [State.elemLoad, if_pos (State.inField_iff.2 h)]

theorem State.elemLoad_out {addr : Elem → Addr} {e : Elem} (h : ¬ InRange s (s.cmAbs (addr e))) :
    s.elemLoad addr e = 0 := by
  rw [State.elemLoad, if_neg (mt State.inField_iff.1 h)]

/-- A vector load writes its elements in force and notes its reads (R234; log 17). -/
theorem loadElems_frame (s : State) (i : Reg) (addr : Elem → Addr) :
    Frame (fun l => (∃ e : Elem, l = .v i e ∧ e.val < s.vlen) ∨ l = .reads) s
      (s.noteReads i addr (s.writeElems i s.vlen (s.elemLoad addr))) :=
  (s.writeElems_frame i s.vlen _).trans (s.noteReads_frame _ i addr)

/-- Settles O37: the elements are written, the reads noted, and the end sends the signal where an element is out of the field. -/
theorem vectorLoadsFromCommonMemory : Obligations.VectorLoadsFromCommonMemory := by
  refine ⟨encodes_low rfl rfl (by simp [decodeLow, decodeRow070]),
    encodes_low rfl rfl (by simp [decodeLow, decodeRow070]), fun s x i j k a hx hinst hhalt => ?_⟩
  have hshape : ReadsElems s x i a := by
    obtain ⟨rfl, ha⟩ | ⟨rfl, hmode, ha⟩ := hx
    · exact loadVStride_readsElems ha
    · exact gather_readsElems hmode ha
  obtain ⟨addr, rfl, hexec⟩ := hshape
  rw [hexec, loadElems_of_installed hinst]
  obtain ⟨hp, herr, hend⟩ := State.completeRef_goesOn
    (s.noteReads i addr (s.writeElems i s.vlen (s.elemLoad addr))) (err := s.someOut addr) 1
    (by simpa using halt_off_of_someOut hhalt)
  refine ⟨_, rfl, ⟨fun e he => ?_, ?_, ?_⟩, ?_⟩
  · rw [State.completeRef_V, State.noteReads_V, State.writeElems_V, if_pos ⟨rfl, he⟩]
    refine ⟨fun hin => ?_, fun hout => ?_⟩
    · rw [State.elemLoad_in hin]
      exact ⟨s.cmLoad_mayLoad _ _, State.cmLoad_quiet _⟩
    · exact ⟨State.elemLoad_out hout, herr (State.someOut_iff.2 ⟨e, he, hout⟩)⟩
  · exact Eq.trans (hend .reads (by simp)) (s.noteReads_port i addr _).2
  · simpa using hp
  · refine ((loadElems_frame s i addr).trans hend).mono ?_
    rintro l ((h | h) | h | ⟨h, hout⟩)
    · exact .inr (.inr (.inl h))
    · exact .inr (.inl h)
    · exact .inl h
    · exact .inr (.inr (.inr ⟨h, State.someOut_iff.1 hout⟩))

/-! ## Stores -/

/-- The words written by a vector store (R70, R71; log 19). -/
theorem storeElems_settle_wroteWords (s : State) (addr : Elem → Addr) (data : Elem → Word) :
    WroteWords s (s.storeElems addr data).settle
      ((s.elements.filter (fun e => s.inField (s.cmAbs (addr e)))).map
        (fun e => ((s.cmAbs (addr e)).toNat, data e))) :=
  wroteWords_settle (s.storeElems_cm addr data) (s.storeElems_params addr data) (s.storeElems_waiting addr data)

/-- A vector store changes the words of its elements in the field, the words stored to, and registers that await one of them. -/
theorem storeElems_settle_frame (s : State) (addr : Elem → Addr) (data : Elem → Word) :
    Frame (fun l => l = .dirty ∨
      (∃ e : Elem, e.val < s.vlen ∧ InRange s (s.cmAbs (addr e)) ∧
        (l = .cm (s.cmAbs (addr e)).toNat ∨ AwaitingLoc s (s.cmAbs (addr e)).toNat l)) ∨
      (s.params.cmProgramOrder = true ∧ WaitingLoc s l)) s (s.storeElems addr data).settle := by
  refine ((storeElems_settle_wroteWords s addr data).settle_frame (s.storeElems_frame addr data)).mono ?_
  rintro l ((h | ⟨e, he, hin, h⟩) | ⟨x, hx, rfl⟩ | h)
  · exact .inl h
  · exact .inr (.inl ⟨e, he, hin, .inr h⟩)
  · obtain ⟨e, he, rfl⟩ := List.mem_map.1 hx
    obtain ⟨hel, hf⟩ := List.mem_filter.1 he
    exact .inr (.inl ⟨e, State.mem_elements.1 hel, State.inField_iff.1 hf, .inl rfl⟩)
  · exact .inr (.inr h)

/-- Settles O38: the writes issue and settle, and the end sends the signal where an element is out of the field. -/
theorem vectorStoresToCommonMemory : Obligations.VectorStoresToCommonMemory := by
  refine ⟨encodes_low rfl rfl (by simp [decodeLow, decodeRow070]),
    encodes_low rfl rfl (by simp [decodeLow, decodeRow070]), fun s x i j k a hx hinst hhalt => ?_⟩
  have hshape : WritesElems s x i a := by
    obtain ⟨rfl, ha⟩ | ⟨rfl, ha⟩ := hx
    · exact storeVStride_writesElems ha
    · exact scatter_writesElems ha
  obtain ⟨addr, rfl, hexec⟩ := hshape
  rw [hexec, writeElemsCm_of_installed hinst]
  obtain ⟨hp, herr, hend⟩ := State.completeRef_goesOn (s.storeElems addr (s.V i)).settle (err := s.someOut addr) 1
    (by simpa using halt_off_of_someOut hhalt)
  refine ⟨_, rfl, ⟨?_, fun b => ?_, fun e he hout => ?_, fun n => ?_, fun n d => ?_, ?_⟩, ?_⟩
  · exact (storeElems_settle_wroteWords s addr (s.V i)).congr fun a => hend (.cm a) (by simp)
  · simp [State.mem_storeElems_dirty, State.mem_elements, State.inField_iff]
  · exact herr (State.someOut_iff.2 ⟨e, he, hout⟩)
  · simpa [State.mem_elements, State.inField_iff] using s.storeElems_S addr (s.V i) n
  · simpa [State.mem_elements, State.inField_iff] using s.storeElems_V addr (s.V i) n d
  · simpa using hp
  · refine ((storeElems_settle_frame s addr (s.V i)).trans hend).mono ?_
    rintro l ((h | h | h) | h | ⟨h, hout⟩)
    · exact .inr (.inl h)
    · exact .inr (.inr (.inl h))
    · exact .inr (.inr (.inr (.inl h)))
    · exact .inl h
    · exact .inr (.inr (.inr (.inr ⟨h, State.someOut_iff.1 hout⟩)))

/-! ## Halts -/

/-- A reference with a range error and the halt enabled stops and writes no exit field (R343). -/
theorem completeRef_halts (hp : u.p = s.p) (hbps : u.bps = s.bps) (hen : s.bps.rangeHaltEnable = true) (len : Nat) :
    Stopped .haltedRange len s (u.completeRef true len) ∧ (u.completeRef true len).bps.rangeError = true ∧
      (u.completeRef true len).bps.exitMode = s.bps.exitMode ∧
      (u.completeRef true len).bps.exitCode = s.bps.exitCode := by
  rw [u.completeRef_of_halt len (hbps ▸ hen)]
  have hstop := u.signalRange.stop_stopped .haltedRange len
  rw [Stopped, State.signalRange_p, hp] at hstop
  exact ⟨hstop, rfl, by simp [hbps], by simp [hbps]⟩

/-- Settles O39: both shapes end in a reference with a range error, which halts. -/
theorem vectorReferenceOutOfFieldHalts : Obligations.VectorReferenceOutOfFieldHalts := by
  intro s x i j k a hx hinst hen hout
  have href : VectorReference s x i a := hx.imp (fun h => ⟨j, k, h⟩) (.imp (fun h => ⟨j, k, h⟩) fun h => ⟨j, k, h⟩)
  obtain ⟨addr, rfl, hexec⟩ | ⟨addr, rfl, hexec⟩ := href.shape
  · rw [hexec, loadElems_of_installed hinst, State.someOut_iff.2 hout]
    exact ⟨_, rfl, completeRef_halts (by simp) (by simp) hen 1⟩
  · rw [hexec, writeElemsCm_of_installed hinst, State.someOut_iff.2 hout]
    exact ⟨_, rfl, completeRef_halts (by simp) (by simp) hen 1⟩

/-! ## No storage -/

theorem loadWord_of_missing {r : Addr} (h : s.missing (s.cmAbs r) = true) (i : Reg) (len : Nat) :
    loadWord i r len s = .fault .beyondInstalledMemory := by
  simp [loadWord, h]

theorem writeWord_of_missing {r : Addr} (h : s.missing (s.cmAbs r) = true) (v : Word) (len : Nat) :
    writeWord r v len s = .fault .beyondInstalledMemory := by
  simp [writeWord, h]

/-- Settles O60: the address, one of the element addresses or one of the parcels lacks storage. -/
theorem referencesBeyondInstalledMemoryFault : Obligations.ReferencesBeyondInstalledMemoryFault := by
  refine ⟨fun s x i a hx hin hge => ?_, fun s x i a e hx he hin hge => ?_, fun s q hrun hq hstale hmissing => ?_⟩
  · have hm : s.missing a = true := State.missing_iff.2 ⟨hin, hge⟩
    obtain hx | hx := hx
    · obtain ⟨r, len, rfl, hexec⟩ := hx.exec_eq
      rw [hexec, writeWord_of_missing hm]
    · obtain ⟨r, len, rfl, hexec⟩ := hx.exec_eq
      rw [hexec, loadWord_of_missing hm]
  · obtain ⟨addr, rfl, hexec⟩ | ⟨addr, rfl, hexec⟩ := hx.shape
    · rw [hexec, loadElems, if_pos (State.someMissing_iff.2 ⟨e, he, hin, hge⟩)]
    · rw [hexec, writeElemsCm, if_pos (State.someMissing_iff.2 ⟨e, he, hin, hge⟩)]
  · refine step_of_fetch_missing hrun (fun f hf => ?_) ⟨_, State.mem_fetched.2 ⟨q, hq, rfl⟩, hmissing⟩
    obtain ⟨r, hr, rfl⟩ := State.mem_fetched.1 hf
    exact hstale r hr

end Sys2Proof.Machine
end

section
/-! The decoder and the encoder: the sub-codes without a meaning, the round trip, and what every first parcel is. -/

namespace Sys2Proof

open Machine

/-! ## Parcels with the field jk -/

/-- A parcel with a field jk decodes by the octal digits of its code, as one with three designators does (R91, R100). -/
theorem decodeParcels_parcelJk (f : BitVec 7) (i : Reg) (jk : BitVec 6) (m1 m2 m3 m4 : Parcel) :
    decodeParcels (parcelJk f i jk) m1 m2 m3 m4 =
      if f[6] then decodeHigh (f.extractLsb' 3 3).toFin (f.extractLsb' 0 3).toFin (parcelJk f i jk)
      else decodeLow (f.extractLsb' 3 3).toFin (f.extractLsb' 0 3).toFin (parcelJk f i jk) m1 m2 m3 m4 := by
  rw [parcelJk_eq, decodeParcels_parcelOf]

/-! ## The undescribed sub-codes -/

/-! Each row without a meaning is read from its values of k (R98, R208, R258, R318). -/

theorem decodeParcels_sub035 (i j : Reg) {k : Reg} {n : Fin 4} (hk : k.val = 4 + n.val) (m1 m2 m3 m4 : Parcel) :
    decodeParcels (parcelOf 0o035 i j k) m1 m2 m3 m4 = .sub035 n := by
  obtain ⟨_, _⟩ := k
  cases hk
  rw [decodeParcels_parcelOf]
  match n with
  | 0 | 1 | 2 | 3 => simp [decodeLow, decodeRow030]

theorem decodeParcels_sub106a (i j : Reg) {k : Reg} {n : Fin 2} (hk : k.val = 2 + n.val) (m1 m2 m3 m4 : Parcel) :
    decodeParcels (parcelOf 0o106 i j k) m1 m2 m3 m4 = .sub106a i j n := by
  obtain ⟨_, _⟩ := k
  cases hk
  rw [decodeParcels_parcelOf]
  match n with
  | 0 | 1 => simp [decodeHigh, decodeRow100]

theorem decodeParcels_sub106b (i j : Reg) {k : Reg} {n : Fin 4} (hk : k.val = 4 + n.val) (m1 m2 m3 m4 : Parcel) :
    decodeParcels (parcelOf 0o106 i j k) m1 m2 m3 m4 = .sub106b i j n := by
  obtain ⟨_, _⟩ := k
  cases hk
  rw [decodeParcels_parcelOf]
  match n with
  | 0 | 1 | 2 | 3 => simp [decodeHigh, decodeRow100]

theorem decodeParcels_sub164a (i j : Reg) {k : Reg} {n : Fin 2} (hk : k.val = 2 + n.val) (m1 m2 m3 m4 : Parcel) :
    decodeParcels (parcelOf 0o164 i j k) m1 m2 m3 m4 = .sub164a i j n := by
  obtain ⟨_, _⟩ := k
  cases hk
  rw [decodeParcels_parcelOf]
  match n with
  | 0 | 1 => simp [decodeHigh, decodeRow160]

theorem decodeParcels_sub164b (i j : Reg) {k : Reg} {n : Fin 4} (hk : k.val = 4 + n.val) (m1 m2 m3 m4 : Parcel) :
    decodeParcels (parcelOf 0o164 i j k) m1 m2 m3 m4 = .sub164b i j n := by
  obtain ⟨_, _⟩ := k
  cases hk
  rw [decodeParcels_parcelOf]
  match n with
  | 0 | 1 | 2 | 3 => simp [decodeHigh, decodeRow160]

/-- A sub-code of 4 or more is 4 + n. -/
theorem exists_eq_four_add {k : Reg} (h : 4 ≤ k.val) : ∃ n : Fin 4, k.val = 4 + n.val :=
  ⟨⟨k.val - 4, by omega⟩, by simp; omega⟩

/-- A sub-code of 2 or more is 2 + n or 4 + n. -/
theorem exists_eq_two_add {k : Reg} (h : 2 ≤ k.val) :
    (∃ n : Fin 2, k.val = 2 + n.val) ∨ ∃ n : Fin 4, k.val = 4 + n.val := by
  rcases Nat.lt_or_ge k.val 4 with hlt | hge
  · exact .inl ⟨⟨k.val - 2, by omega⟩, by simp; omega⟩
  · exact .inr (exists_eq_four_add hge)

/-- Settles O59: a sub-code in the range is one of the rows without a meaning, and each row is refused. -/
theorem undescribedSubcodesAreRefused : Obligations.UndescribedSubcodesAreRefused := by
  refine ⟨fun i j k m1 m2 m3 m4 => ⟨fun hk => ?_, fun hk => ?_, fun hk => ?_⟩,
    fun s i j n m => ⟨rfl, rfl, rfl, rfl, rfl⟩⟩
  · obtain ⟨n, hn⟩ := exists_eq_four_add hk
    exact ⟨n, decodeParcels_sub035 i j hn ..⟩
  · obtain ⟨n, hn⟩ | ⟨n, hn⟩ := exists_eq_two_add hk
    · exact .inl ⟨n, decodeParcels_sub106a i j hn ..⟩
    · exact .inr ⟨n, decodeParcels_sub106b i j hn ..⟩
  · obtain ⟨n, hn⟩ | ⟨n, hn⟩ := exists_eq_two_add hk
    · exact .inl ⟨n, decodeParcels_sub164a i j hn ..⟩
    · exact .inr ⟨n, decodeParcels_sub164b i j hn ..⟩

/-! ## Reading a stream of parcels -/

/-- A list that holds the parcels of its first code is decoded (R93, R94). -/
theorem decode_of_le {p : Parcel} {ms : List Parcel} (h : parcelCount (fieldF p) ≤ ms.length + 1) :
    decode (p :: ms) = .ok (decodeParcels p (ms.getD 0 0) (ms.getD 1 0) (ms.getD 2 0) (ms.getD 3 0),
      ms.drop (parcelCount (fieldF p) - 1)) := by
  rw [decode, if_neg (by omega)]

/-- A list that ends before the parcels of its first code is refused (R93, R94). -/
theorem decode_of_lt {p : Parcel} {ms : List Parcel} (h : ms.length + 1 < parcelCount (fieldF p)) :
    decode (p :: ms) = .error .truncated := by
  rw [decode, if_pos (by omega)]

/-! ## The round trip -/

/-- An encoding is as long as its code says (R94). -/
theorem encodingLength (x : Instr) : Laws.EncodingLength.Statement x := by
  cases x with
  | exitExp | err | exit | shortA | shortNegA | shlS | shrS | shortS | shortNegS =>
    exact Laws.encodingLength_parcelJk _ _ _ rfl
  | _ => exact Laws.encodingLength_parcelOf _ _ _ _ rfl

/-- An encoding is a first parcel and its constant parcels (R93). -/
theorem encode_eq_cons (x : Instr) : encode x = (encode x).headD 0 :: (encode x).tail := by
  cases x <;> rfl

/-- The decoder reads a well-formed instruction from its own parcels, whatever follows them (R90 to R92, R95, R99). -/
theorem decodeParcels_encode {x : Instr} (hwf : x.wf = true) (rest : List Parcel) :
    decodeParcels ((encode x).headD 0) (((encode x).tail ++ rest).getD 0 0) (((encode x).tail ++ rest).getD 1 0)
      (((encode x).tail ++ rest).getD 2 0) (((encode x).tail ++ rest).getD 3 0) = x := by
  cases x with
  | exitExp jk =>
    obtain ⟨h0, h1⟩ := of_decide_eq_true hwf
    simp [encode, decodeParcels_parcelJk, decodeLow, decodeRow000, show jk ≠ 0#6 from h0, show jk ≠ 1#6 from h1]
  | err | exit => simp [encode, decodeParcels_parcelJk, decodeLow, decodeRow000]
  | jumpLink i k => simp [encode, decodeParcels_parcelOf, decodeLow, decodeRow000, of_decide_eq_true hwf]
  | cmr | jumpReg | jump | jcs | jss | ssm | csm =>
    simp [encode, constParcels, decodeParcels_parcelOf, decodeLow, decodeRow000]
  | jzA | jnA | jpA | jmA | jzS | jnS | jpS | jmS =>
    simp [encode, constParcels, decodeParcels_parcelOf, decodeLow, decodeRow010]
  | addA | subA | mulA | mulA023 | moveSA | moveVlA => simp [encode, decodeParcels_parcelOf, decodeLow, decodeRow020]
  | shortA | shortNegA => simp [encode, decodeParcels_parcelJk, decodeLow, decodeRow020]
  | sub035 => exact decodeParcels_sub035 _ _ rfl ..
  | vmZero | vmNonzero | vmPositive | vmNegative | moveSVm | dri | eri | dfi | efi | moveAVl | moveAVl037 =>
    simp [encode, decodeParcels_parcelOf, decodeLow, decodeRow030]
  | parcelA | parcelNegA | halfA | halfA043 | loadALm | storeALm | loadALmReg | storeALmReg =>
    simp [encode, constParcels, decodeParcels_parcelOf, decodeLow, decodeRow040]
  | halfS | halfNegS | leftS | fullS | loadSLm | storeSLm | loadSLmReg | storeSLmReg =>
    simp [encode, constParcels, fullParcels, decodeParcels_parcelOf, decodeLow, decodeRow050]
  | loadSSum | storeSSum | loadSReg | storeSReg | loadSDisp | storeSDisp | loadSAbs | storeSAbs =>
    simp [encode, constParcels, decodeParcels_parcelOf, decodeLow, decodeRow060]
  | loadVStride | storeVStride | gather | scatter | loadVLm | storeVLm | pass | pass077 =>
    simp [encode, decodeParcels_parcelOf, decodeLow, decodeRow070]
  | orS i j k => simp [encode, decodeParcels_parcelOf, decodeHigh, decodeRow100, of_decide_eq_true hwf]
  | sub106a => exact decodeParcels_sub106a _ _ rfl ..
  | sub106b => exact decodeParcels_sub106b _ _ rfl ..
  | andS | andNotS | xorS | copyS | addS | subS | popS | parityS | lzS =>
    simp [encode, decodeParcels_parcelOf, decodeHigh, decodeRow100]
  | shlS | shrS | shortS | shortNegS => simp [encode, decodeParcels_parcelJk, decodeHigh, decodeRow110]
  | dshlS | dshrS | moveVmS | moveRtS => simp [encode, decodeParcels_parcelOf, decodeHigh, decodeRow110]
  | faddS | fsubS | fixS | fltS | fmulS | fmulS125 | recipIterS | rsqrtIterS =>
    simp [encode, decodeParcels_parcelOf, decodeHigh, decodeRow120]
  | moveAS | moveASigned | recipS | rsqrtS | setShared | pass135 | readShared | incShared =>
    simp [encode, decodeParcels_parcelOf, decodeHigh, decodeRow130]
  | xorVV i j k => simp [encode, decodeParcels_parcelOf, decodeHigh, decodeRow140, of_decide_eq_true hwf]
  | orSV i j k => simp [encode, decodeParcels_parcelOf, decodeHigh, decodeRow140, (of_decide_eq_true hwf).symm]
  | orVV i j k => simp [encode, decodeParcels_parcelOf, decodeHigh, decodeRow140, of_decide_eq_true hwf]
  | andSV | andVV | xorSV | clearV | broadcastV | copyV | mergeSV | mergeVV =>
    simp [encode, decodeParcels_parcelOf, decodeHigh, decodeRow140]
  | shlV | shrV | dshlV | dshrV | fmulSV | fmulVV | recipIterV | rsqrtIterV =>
    simp [encode, decodeParcels_parcelOf, decodeHigh, decodeRow150]
  | subVV i j k => simp [encode, decodeParcels_parcelOf, decodeHigh, decodeRow160, (of_decide_eq_true hwf).symm]
  | sub164a => exact decodeParcels_sub164a _ _ rfl ..
  | sub164b => exact decodeParcels_sub164b _ _ rfl ..
  | addSV | addVV | subSV | negV | popV | parityV | lzV | recipV | rsqrtV =>
    simp [encode, decodeParcels_parcelOf, decodeHigh, decodeRow160]
  | fsubVV i j k => simp [encode, decodeParcels_parcelOf, decodeHigh, decodeRow170, (of_decide_eq_true hwf).symm]
  | faddSV | faddVV | fsubSV | fnegV | fixV | fltV | iota | iota177 =>
    simp [encode, decodeParcels_parcelOf, decodeHigh, decodeRow170]

/-- Settles O1: the length of the encoding tells where the instruction ends, and its parcels tell which it is. -/
theorem decodeEncodeRoundTrip : Obligations.DecodeEncodeRoundTrip := by
  intro x rest hwf
  have hlen : parcelCount (fieldF ((encode x).headD 0)) = (encode x).tail.length + 1 := by
    rw [← encodingLength x, ← List.length_cons, ← encode_eq_cons]
  have hle : parcelCount (fieldF ((encode x).headD 0)) ≤ ((encode x).tail ++ rest).length + 1 := by
    rw [hlen, List.length_append]
    omega
  rw [encode_eq_cons x, List.cons_append, decode_of_le hle, decodeParcels_encode hwf, hlen, Nat.add_sub_cancel,
    List.drop_left]

/-- Settles O3: each of the words is the encoding of its instruction. -/
theorem listedWordsDecode : Obligations.ListedWordsDecode :=
  ⟨decodeEncodeRoundTrip (.addA 1 2 3) [] rfl, decodeEncodeRoundTrip (.iota 1 2 3) [] rfl,
    decodeEncodeRoundTrip (.moveVlA 4) [] rfl, decodeEncodeRoundTrip (.jzS 1 4) [] rfl,
    decodeEncodeRoundTrip (.halfA 1 0xFFFFFFFE) [] rfl, decodeEncodeRoundTrip (.leftS 2 0x40018000) [] rfl,
    decodeEncodeRoundTrip (.clearV 6) [] rfl, decodeEncodeRoundTrip (.negV 7 4) [] rfl,
    decodeEncodeRoundTrip (.fnegV 5 6) [] rfl, decodeEncodeRoundTrip (.exitExp 4) [] rfl⟩

/-! ## Every first parcel -/

/-- An instruction is well formed and its encoding has the code `f` (R90, R99). -/
def HasCode (x : Instr) (f : BitVec 7) : Prop := x.wf = true ∧ fieldF ((encode x).headD 0) = f

/-- The code with top bit `t` and octal digits `h` and `g` (R90, R100). -/
def codeOf (t : Bool) (h g : Fin 8) : BitVec 7 :=
  BitVec.ofBool t ++ (BitVec.ofFin h : BitVec 3) ++ (BitVec.ofFin g : BitVec 3)

/-- The code of a parcel is made of the bit and the digits the decoder goes by. -/
theorem fieldF_eq_codeOf (p : Parcel) :
    fieldF p = codeOf (p.getLsbD 15) (p.extractLsb' 12 3).toFin (p.extractLsb' 9 3).toFin := by
  apply BitVec.eq_of_getLsbD_eq
  intro n hn
  have mid : ∀ m, (BitVec.ofFin (p.extractLsb' 12 3).toFin : BitVec 3).getLsbD m =
      (decide (m < 3) && p.getLsbD (12 + m)) :=
    fun m => BitVec.getLsbD_extractLsb' ..
  have low : ∀ m, (BitVec.ofFin (p.extractLsb' 9 3).toFin : BitVec 3).getLsbD m =
      (decide (m < 3) && p.getLsbD (9 + m)) :=
    fun m => BitVec.getLsbD_extractLsb' ..
  rw [codeOf, BitVec.getLsbD_append, BitVec.getLsbD_append, mid, low, fieldF, BitVec.getLsbD_extractLsb']
  interval_cases n <;> simp

/-! The rows of the map that hold special forms or sub-codes: the instruction read has the code it is read from, and
meets the constraint of its own row of the table (R98, R99, R100). -/

theorem decodeRow000_hasCode (g : Fin 8) (p m1 m2 : Parcel) :
    HasCode (decodeRow000 g p m1 m2) (codeOf false 0 g) := by
  match g with
  | 0 =>
    simp only [decodeRow000]
    split_ifs with herr hexit
    · exact ⟨rfl, fieldF_parcelJk ..⟩
    · exact ⟨rfl, fieldF_parcelJk ..⟩
    · exact ⟨decide_eq_true ⟨herr, hexit⟩, fieldF_parcelJk ..⟩
  | 2 => by_cases hik : regI p = regK p <;> simp [HasCode, decodeRow000, Instr.wf, encode, codeOf, hik]
  | 1 | 3 | 4 | 5 | 6 | 7 => simp [HasCode, decodeRow000, Instr.wf, encode, codeOf]

theorem decodeRow030_hasCode (g : Fin 8) (p : Parcel) : HasCode (decodeRow030 g p) (codeOf false 3 g) := by
  match g with
  | 5 =>
    simp only [decodeRow030]
    generalize regK p = k
    match k with
    | 0 | 1 | 2 | 3 | 4 | 5 | 6 | 7 => simp [HasCode, Instr.wf, encode, codeOf]
  | 0 | 1 | 2 | 3 | 4 | 6 | 7 => simp [HasCode, decodeRow030, Instr.wf, encode, codeOf]

theorem decodeRow100_hasCode (g : Fin 8) (p : Parcel) : HasCode (decodeRow100 g p) (codeOf true 0 g) := by
  match g with
  | 3 => by_cases hjk : regJ p = regK p <;> simp [HasCode, decodeRow100, Instr.wf, encode, codeOf, hjk]
  | 6 =>
    simp only [decodeRow100]
    generalize regK p = k
    match k with
    | 0 | 1 | 2 | 3 | 4 | 5 | 6 | 7 => simp [HasCode, Instr.wf, encode, codeOf]
  | 0 | 1 | 2 | 4 | 5 | 7 => simp [HasCode, decodeRow100, Instr.wf, encode, codeOf]

theorem decodeRow140_hasCode (g : Fin 8) (p : Parcel) : HasCode (decodeRow140 g p) (codeOf true 4 g) := by
  match g with
  | 3 =>
    by_cases hijk : regI p = regJ p ∧ regJ p = regK p <;> simp [HasCode, decodeRow140, Instr.wf, encode, codeOf, hijk]
  | 4 => by_cases hik : regI p = regK p <;> simp [HasCode, decodeRow140, Instr.wf, encode, codeOf, hik, eq_comm]
  | 5 => by_cases hjk : regJ p = regK p <;> simp [HasCode, decodeRow140, Instr.wf, encode, codeOf, hjk]
  | 0 | 1 | 2 | 6 | 7 => simp [HasCode, decodeRow140, Instr.wf, encode, codeOf]

theorem decodeRow160_hasCode (g : Fin 8) (p : Parcel) : HasCode (decodeRow160 g p) (codeOf true 6 g) := by
  match g with
  | 3 => by_cases hij : regI p = regJ p <;> simp [HasCode, decodeRow160, Instr.wf, encode, codeOf, hij, eq_comm]
  | 4 =>
    simp only [decodeRow160]
    generalize regK p = k
    match k with
    | 0 | 1 | 2 | 3 | 4 | 5 | 6 | 7 => simp [HasCode, Instr.wf, encode, codeOf]
  | 0 | 1 | 2 | 5 | 6 | 7 => simp [HasCode, decodeRow160, Instr.wf, encode, codeOf]

theorem decodeRow170_hasCode (g : Fin 8) (p : Parcel) : HasCode (decodeRow170 g p) (codeOf true 7 g) := by
  match g with
  | 3 => by_cases hij : regI p = regJ p <;> simp [HasCode, decodeRow170, Instr.wf, encode, codeOf, hij, eq_comm]
  | 0 | 1 | 2 | 4 | 5 | 6 | 7 => simp [HasCode, decodeRow170, Instr.wf, encode, codeOf]

theorem decodeLow_hasCode (h g : Fin 8) (p m1 m2 m3 m4 : Parcel) :
    HasCode (decodeLow h g p m1 m2 m3 m4) (codeOf false h g) := by
  match h with
  | 0 => exact decodeRow000_hasCode ..
  | 3 => exact decodeRow030_hasCode ..
  | 1 | 2 | 4 | 5 | 6 | 7 =>
    match g with
    | 0 | 1 | 2 | 3 | 4 | 5 | 6 | 7 =>
      simp [HasCode, decodeLow, decodeRow010, decodeRow020, decodeRow040, decodeRow050, decodeRow060, decodeRow070,
        Instr.wf, encode, codeOf]

theorem decodeHigh_hasCode (h g : Fin 8) (p : Parcel) : HasCode (decodeHigh h g p) (codeOf true h g) := by
  match h with
  | 0 => exact decodeRow100_hasCode ..
  | 4 => exact decodeRow140_hasCode ..
  | 6 => exact decodeRow160_hasCode ..
  | 7 => exact decodeRow170_hasCode ..
  | 1 | 2 | 3 | 5 =>
    match g with
    | 0 | 1 | 2 | 3 | 4 | 5 | 6 | 7 =>
      simp [HasCode, decodeHigh, decodeRow110, decodeRow120, decodeRow130, decodeRow150, Instr.wf, encode, codeOf]

/-- All 128 codes are assigned: every first parcel is of a well-formed instruction of its code (R93, R100). -/
theorem decodeParcels_hasCode (p m1 m2 m3 m4 : Parcel) : HasCode (decodeParcels p m1 m2 m3 m4) (fieldF p) := by
  rw [fieldF_eq_codeOf, decodeParcels]
  split
  next htop => rw [htop]; exact decodeHigh_hasCode ..
  next htop => rw [Bool.eq_false_of_not_eq_true htop]; exact decodeLow_hasCode ..

/-- Settles O2: the instruction is the one the decoder reads, and its encoding is as long as the code says. -/
theorem everyParcelDecodes : Obligations.EveryParcelDecodes := by
  refine ⟨fun p ms h => ?_, fun p ms => decode_of_lt⟩
  obtain ⟨hwf, hcode⟩ := decodeParcels_hasCode p (ms.getD 0 0) (ms.getD 1 0) (ms.getD 2 0) (ms.getD 3 0)
  exact ⟨_, hwf, decode_of_le h, hcode, (encodingLength _).trans (by rw [hcode])⟩

end Sys2Proof
end

section
/-! The branches, 010 to 017: the four tests of a register, and P after them. -/

namespace Sys2Proof.Machine

variable {n : Nat} {x : BitVec n}

/-! ## The four tests (R124) -/

theorem testZero_iff_eq_zero : testZero x = true ↔ x = 0 := by simp [testZero]

theorem testNonzero_iff_ne_zero : testNonzero x = true ↔ ¬ x = 0 := by simp [testNonzero]

/-- Zero is positive (D2; log 10). -/
theorem testPositive_iff_nonneg : testPositive x = true ↔ 0 ≤ x.toInt := by
  simp [testPositive, BitVec.msb_eq_toInt]

theorem testNegative_iff_neg : testNegative x = true ↔ x.toInt < 0 := by
  simp [testNegative, BitVec.msb_eq_toInt]

/-! ## P -/

/-- A branch on a test that decides `c` goes to its target where `c` holds and past its three parcels elsewhere, and changes nothing but P (R164). -/
theorem branch_completes (s : State) (target : Addr) {taken : Bool} {c : Prop} [Decidable c] (h : taken = true ↔ c) :
    Completes (.next (s.branch taken target)) s (· = .p) (fun t => t.p = if c then target else s.p + 3) :=
  ⟨_, rfl, by simp only [State.branch_p, h], s.branch_frame taken target⟩

/-- The branch of the opposite test, with its two ends in the other order. -/
theorem branch_not_completes (s : State) (target : Addr) {taken : Bool} {c : Prop} [Decidable c]
    (h : taken = true ↔ ¬ c) :
    Completes (.next (s.branch taken target)) s (· = .p) (fun t => t.p = if c then s.p + 3 else target) := by
  simpa only [ite_not] using branch_completes s target h

/-- Settles O21: the four branches are one branch, on the four tests of an A register. -/
theorem branchesTestAnAddressRegister : Obligations.BranchesTestAnAddressRegister :=
  ⟨encodes_low rfl rfl (by simp [decodeLow, decodeRow010]), encodes_low rfl rfl (by simp [decodeLow, decodeRow010]),
    encodes_low rfl rfl (by simp [decodeLow, decodeRow010]), encodes_low rfl rfl (by simp [decodeLow, decodeRow010]),
    fun s _ c => ⟨branch_completes s c testZero_iff_eq_zero, branch_not_completes s c testNonzero_iff_ne_zero,
      branch_completes s c testPositive_iff_nonneg, branch_completes s c testNegative_iff_neg⟩⟩

/-- Settles O22: the same four branches, on the tests of an S register. -/
theorem branchesTestAScalarRegister : Obligations.BranchesTestAScalarRegister :=
  ⟨encodes_low rfl rfl (by simp [decodeLow, decodeRow010]), encodes_low rfl rfl (by simp [decodeLow, decodeRow010]),
    encodes_low rfl rfl (by simp [decodeLow, decodeRow010]), encodes_low rfl rfl (by simp [decodeLow, decodeRow010]),
    fun s _ c => ⟨branch_completes s c testZero_iff_eq_zero, branch_not_completes s c testNonzero_iff_ne_zero,
      branch_completes s c testPositive_iff_nonneg, branch_completes s c testNegative_iff_neg⟩⟩

end Sys2Proof.Machine
end

section
/-! Shifts and bit counts: the functions as numbers, and 110 to 113. -/

namespace Sys2Proof.Machine

variable {s : State}

/-- A code of 100 or more decodes in the row of its middle octal digit (R90, R100). -/
theorem encodes_high {f : BitVec 7} {len : Nat} {g : Reg → Reg → Reg → Parcel → Parcel → Parcel → Parcel → Instr}
    (hlen : parcelCount f = len) (hhigh : f[6] = true)
    (hrow : ∀ i j k m1 m2 m3 m4, decodeHigh (f.extractLsb' 3 3).toFin (f.extractLsb' 0 3).toFin (parcelOf f i j k)
      = g i j k m1 m2 m3 m4) : Encodes f len g := by
  refine ⟨hlen, fun i j k m1 m2 m3 m4 => ?_⟩
  rw [decodeParcels_parcelOf, if_pos hhigh, hrow]

/-- A result for an S register is written there, and nothing else but P changes. -/
theorem resultS_writes (i : Reg) (v : Word) (len : Nat) (s : State) : WritesS (resultS i v len s) s i v len :=
  ⟨_, rfl, ⟨by simp, rfl⟩, ((s.setS_frame i v).trans (State.advance_frame _ len)).mono fun _ => by tauto⟩

/-! ## Shifts -/

/-- A left shift multiplies, zero for counts of 64 or more (R127). -/
theorem shl64_eq_ite (x : Word) (n : Nat) : shl64 x n = if n < 64 then BitVec.ofNat 64 (x.toNat * 2 ^ n) else 0 := by
  rw [shl64]
  split
  · apply BitVec.eq_of_toNat_eq
    rw [BitVec.toNat_shiftLeft, Nat.shiftLeft_eq, BitVec.toNat_ofNat]
  · rfl

/-- Counts of 64 or more give a multiple of 2^64, so the zero is no exception (R127). -/
theorem shl64_eq_ofNat (x : Word) (n : Nat) : shl64 x n = BitVec.ofNat 64 (x.toNat * 2 ^ n) := by
  rw [shl64_eq_ite]
  split
  · rfl
  case isFalse h =>
    have hdvd : 2 ^ 64 ∣ x.toNat * 2 ^ n := (Nat.pow_dvd_pow 2 (Nat.le_of_not_lt h)).mul_left _
    apply BitVec.eq_of_toNat_eq
    rw [BitVec.toNat_ofNat, Nat.mod_eq_zero_of_dvd hdvd]
    rfl

/-- A right shift divides, zero for counts of 64 or more (R127). -/
theorem shr64_eq_ite (x : Word) (n : Nat) : shr64 x n = if n < 64 then BitVec.ofNat 64 (x.toNat / 2 ^ n) else 0 := by
  rw [shr64]
  split
  · apply BitVec.eq_of_toNat_eq
    rw [BitVec.toNat_ushiftRight, Nat.shiftRight_eq_div_pow, BitVec.toNat_ofNat,
      Nat.mod_eq_of_lt ((Nat.div_le_self _ _).trans_lt x.isLt)]
  · rfl

/-- Two words side by side are one number (R128). -/
theorem toNat_append_words (hi lo : Word) : (hi ++ lo : BitVec 128).toNat = hi.toNat * 2 ^ 64 + lo.toNat := by
  rw [BitVec.toNat_append, Nat.shiftLeft_eq, mul_comm, Nat.two_pow_add_eq_or_of_lt lo.isLt]

/-- The upper word of a double left shift (R128). -/
theorem dshl_eq_ite (hi lo : Word) (n : Nat) :
    dshl hi lo n = if n < 128 then
      BitVec.ofNat 64 ((hi.toNat * 2 ^ 64 + lo.toNat) * 2 ^ n % 2 ^ 128 / 2 ^ 64) else 0 := by
  rw [dshl]
  split
  · apply BitVec.eq_of_toNat_eq
    rw [BitVec.extractLsb'_toNat, BitVec.toNat_shiftLeft, toNat_append_words, Nat.shiftLeft_eq,
      Nat.shiftRight_eq_div_pow, BitVec.toNat_ofNat]
  · rfl

/-- The lower word of a double right shift (R128). -/
theorem dshr_eq_ite (hi lo : Word) (n : Nat) :
    dshr hi lo n = if n < 128 then BitVec.ofNat 64 ((hi.toNat * 2 ^ 64 + lo.toNat) / 2 ^ n) else 0 := by
  rw [dshr]
  split
  · apply BitVec.eq_of_toNat_eq
    rw [BitVec.extractLsb'_toNat, BitVec.toNat_ushiftRight, toNat_append_words, Nat.shiftRight_zero,
      Nat.shiftRight_eq_div_pow, BitVec.toNat_ofNat]
  · rfl

/-- Settles O44: each shift writes its number to S[i]. -/
theorem scalarShifts : Obligations.ScalarShifts := by
  refine ⟨encodes_high rfl rfl (by simp [decodeHigh, decodeRow110]),
    encodes_high rfl rfl (by simp [decodeHigh, decodeRow110]),
    encodes_high rfl rfl (by simp [decodeHigh, decodeRow110]),
    encodes_high rfl rfl (by simp [decodeHigh, decodeRow110]),
    fun s i j k jk => ⟨?_, ?_, ?_, ?_⟩⟩
  · rw [← shl64_eq_ofNat]
    exact resultS_writes ..
  · have hshr := shr64_eq_ite (s.S i) jk.toNat
    rw [if_pos jk.isLt] at hshr
    rw [← hshr]
    exact resultS_writes ..
  · rw [← dshl_eq_ite]
    exact resultS_writes ..
  · rw [← dshr_eq_ite]
    exact resultS_writes ..

/-! ## Bit counts -/

/-- The bits counted below `n` (R126). -/
theorem onesBelow_eq_card (x : Word) (n : Nat) :
    onesBelow x n = ((Finset.range n).filter fun b => x.getLsbD b = true).card := by
  induction n with
  | zero => rfl
  | succ n ih =>
    rw [onesBelow, ih, Finset.range_add_one, Finset.filter_insert]
    by_cases hb : x.getLsbD n = true <;> simp [hb]

/-- The population count is the number of 1 bits (R126). -/
theorem popcount_eq_card (x : Word) : popcount x = (Finset.univ.filter fun b : Fin 64 => x.getLsbD b).card := by
  rw [popcount, onesBelow_eq_card, Finset.card_filter, Finset.card_filter, Finset.sum_range]

theorem zerosFrom_le (x : Word) (n : Nat) : zerosFrom x n ≤ n := by
  induction n with
  | zero => exact le_rfl
  | succ n ih =>
    rw [zerosFrom]
    split <;> omega

/-- The bits passed over are 0 (R126). -/
theorem getLsbD_of_zerosFrom (x : Word) (n : Nat) {b : Nat} (hb : n - zerosFrom x n ≤ b) (hn : b < n) :
    x.getLsbD b = false := by
  induction n with
  | zero => omega
  | succ n ih =>
    rw [zerosFrom] at hb
    split at hb
    · omega
    next hbit =>
      obtain hlt | rfl := Nat.lt_or_eq_of_le (Nat.le_of_lt_succ hn)
      · exact ih (by omega) hlt
      · simpa using hbit

/-- The bit that ends the count is 1 (R126). -/
theorem getLsbD_zerosFrom (x : Word) (n : Nat) (h : zerosFrom x n < n) : x.getLsbD (n - 1 - zerosFrom x n) = true := by
  induction n with
  | zero => omega
  | succ n ih =>
    rw [zerosFrom] at h ⊢
    split at h
    next hbit => simp [hbit]
    next hbit =>
      rw [if_neg hbit, show n + 1 - 1 - (zerosFrom x n + 1) = n - 1 - zerosFrom x n by omega]
      exact ih (by omega)

/-- The leading zeros are 0 to 64, all of them 0 bits, with a 1 bit after them where there are fewer than 64 (R126). -/
theorem leadingZeros_spec (x : Word) :
    leadingZeros x ≤ 64 ∧ (∀ b, 64 - leadingZeros x ≤ b → b < 64 → x.getLsbD b = false) ∧
      (leadingZeros x < 64 → x.getLsbD (63 - leadingZeros x) = true) :=
  ⟨zerosFrom_le x 64, fun _ => getLsbD_of_zerosFrom x 64, getLsbD_zerosFrom x 64⟩

end Sys2Proof.Machine
end

section
/-! The vector instructions 140 to 153 and 160 to 165: what their operand streams supply, and results element by element. -/

namespace Sys2Proof.Machine

variable {s : State} {i j k : Reg}

/-! ## Streams and the overlap guard -/

theorem State.stream_of_zeros (h : s.params.vSrcEqDst = .zeros) (e : Elem) : s.stream i i e = 0 := by
  simp [State.stream, h]

theorem State.stream_of_old (h : s.params.vSrcEqDst = .old) (e : Elem) : s.stream i i e = s.V i e := by
  simp [State.stream, h]

/-- A destination that is a source stops the instruction under `refuse` (R131, R291; log 27). -/
theorem guardOverlap_refused {overlap : Bool} (hmode : s.params.vSrcEqDst = .refuse) (hoverlap : overlap = true)
    (r : Result) : guardOverlap overlap s r = .refused .vectorOverlap := by
  rw [guardOverlap, hoverlap, decide_eq_true hmode]
  rfl

/-- Settles O53: a stream by its three readings, and the guard of each instruction that has a vector source. -/
theorem vectorSourcesThatAreDestinations : Obligations.VectorSourcesThatAreDestinations := by
  refine ⟨fun s i n e => ⟨fun h => State.stream_of_ne h e, ?_, ?_⟩, fun s i j k x hmode h => ?_⟩
  · rintro rfl hmode
    exact State.stream_of_zeros hmode e
  · rintro rfl hmode
    exact State.stream_of_old hmode e
  · obtain ⟨hik, hx⟩ | ⟨hijk, hx⟩ | ⟨hij, hx⟩ := h
    · have hguard := guardOverlap_refused hmode (decide_eq_true hik)
      rcases hx with rfl | rfl | rfl | rfl | rfl | rfl | rfl | rfl | rfl | rfl | rfl | rfl | rfl | rfl | rfl <;>
        exact hguard _
    · have hguard := guardOverlap_refused (overlap := decide (i = j) || decide (i = k)) hmode (by simpa using hijk)
      rcases hx with rfl | rfl | rfl | rfl | rfl | rfl | rfl | rfl | rfl | rfl | rfl <;> exact hguard _
    · have hguard := guardOverlap_refused hmode (decide_eq_true hij)
      rcases hx with rfl | rfl | rfl | rfl | rfl | rfl | rfl | rfl | rfl <;> exact hguard _

/-! ## Results element by element -/

/-- The elements in force are written, and nothing else but P changes (R129, R290). -/
theorem vectorResult_writes (s : State) (i : Reg) (f : Elem → Word) : WritesV (vectorResult i f s) s i f :=
  ⟨_, rfl, ⟨fun e he => by simp [he], rfl⟩,
    ((s.writeElems_frame i s.vlen f).trans (State.advance_frame _ 1)).mono fun _ => by tauto⟩

/-- A guarded result is written unless the overlap is refused (R291). -/
theorem guardOverlap_writes {overlap : Bool} (h : overlap = true → s.params.vSrcEqDst ≠ .refuse) (f : Elem → Word) :
    WritesV (guardOverlap overlap s (vectorResult i f s)) s i f := by
  have hpass : guardOverlap overlap s (vectorResult i f s) = vectorResult i f s := by
    cases overlap
    · exact guardOverlap_false s _
    · exact guardOverlap_of_ne true _ (h rfl)
  rw [hpass]
  exact vectorResult_writes s i f

theorem scalarVector_writes (h : i = k → s.params.vSrcEqDst ≠ .refuse) (f : Word → Word → Word) :
    WritesV (scalarVector i j k f s) s i (fun e => f (s.S j) (s.stream i k e)) :=
  guardOverlap_writes (fun hik => h (of_decide_eq_true hik)) _

theorem vectorVector_writes (h : i = j ∨ i = k → s.params.vSrcEqDst ≠ .refuse) (f : Word → Word → Word) :
    WritesV (vectorVector i j k f s) s i (fun e => f (s.stream i j e) (s.stream i k e)) :=
  guardOverlap_writes (fun hijk => h (by simpa using hijk)) _

theorem vectorUnary_writes {n : Reg} (h : i = n → s.params.vSrcEqDst ≠ .refuse) (f : Word → Word) :
    WritesV (vectorUnary i n f s) s i (fun e => f (s.stream i n e)) :=
  guardOverlap_writes (fun hin => h (of_decide_eq_true hin)) _

/-- The function that gives the results may be written another way. -/
theorem WritesV.congr {r : Result} {f g : Elem → Word} (h : WritesV r s i f) (hfg : ∀ e, f e = g e) :
    WritesV r s i g := by
  rwa [← funext hfg]

/-- The low sub-codes of 164 are the two counts (R98). -/
theorem decodeParcels_counts164 (i j : Reg) (m1 m2 m3 m4 : Parcel) :
    decodeParcels (parcelOf 0o164 i j 0) m1 m2 m3 m4 = .popV i j ∧
      decodeParcels (parcelOf 0o164 i j 1) m1 m2 m3 m4 = .parityV i j := by
  constructor <;> (rw [decodeParcels_parcelOf]; simp [decodeHigh, decodeRow160])

/-- Settles O54: three shapes, each with the functions of its codes. -/
theorem vectorLogicArithmeticAndCounts : Obligations.VectorLogicArithmeticAndCounts := by
  refine ⟨encodes_high rfl rfl (by simp [decodeHigh, decodeRow140]),
    encodes_high rfl rfl (by simp [decodeHigh, decodeRow140]),
    encodes_high rfl rfl (by simp [decodeHigh, decodeRow140]),
    encodes_high rfl rfl (by simp [decodeHigh, decodeRow140]),
    encodes_high rfl rfl (by simp [decodeHigh, decodeRow140]),
    encodes_high rfl rfl (by simp [decodeHigh, decodeRow140]),
    encodes_high rfl rfl (by simp [decodeHigh, decodeRow160]),
    encodes_high rfl rfl (by simp [decodeHigh, decodeRow160]),
    encodes_high rfl rfl (by simp [decodeHigh, decodeRow160]),
    encodes_high rfl rfl (by simp [decodeHigh, decodeRow160]),
    rfl, decodeParcels_counts164, encodes_high rfl rfl (by simp [decodeHigh, decodeRow160]),
    fun s i j k => ⟨fun hik => ?_, fun hijk => ?_, fun hij => ⟨?_, ?_, ?_, ?_⟩⟩⟩
  · exact ⟨scalarVector_writes hik (· &&& ·), scalarVector_writes hik (· ^^^ ·), scalarVector_writes hik (· ||| ·),
      scalarVector_writes hik (· + ·), scalarVector_writes hik (· - ·)⟩
  · exact ⟨vectorVector_writes hijk (· &&& ·), vectorVector_writes hijk (· ^^^ ·), vectorVector_writes hijk (· ||| ·),
      vectorVector_writes hijk (· + ·), vectorVector_writes hijk (· - ·)⟩
  · exact (vectorUnary_writes hij fun x => x ||| x).congr fun e => BitVec.or_self
  · exact (vectorUnary_writes hij popWord).congr fun e => by rw [popWord, popcount_eq_card]
  · exact (vectorUnary_writes hij parityWord).congr fun e => by rw [parityWord, popcount_eq_card]
  · exact ⟨fun e => leadingZeros (s.stream i j e), vectorUnary_writes hij lzWord, fun e => leadingZeros_spec _⟩

/-! ## Shifts with the neighbouring element -/

/-- An account of the elements after that ends in zero is what the stream supplies (R305). -/
theorem toNat_streamAfter {n : Nat} {f : Elem → Word} {next : Elem → Nat}
    (hnext : ∀ e d : Elem, d.val = e.val + 1 → next e = if d.val < n then (f d).toNat else 0) (hlast : next 63 = 0)
    (e : Elem) : (streamAfter n f e).toNat = next e := by
  by_cases he : e.val + 1 < 64
  · rw [streamAfter, dif_pos he, hnext e ⟨e.val + 1, he⟩ rfl]
    split <;> rfl
  · obtain rfl : e = 63 := Fin.ext (by simp; omega)
    rw [streamAfter, dif_neg he, hlast]
    rfl

/-- An account of the elements before that starts with zero is what the stream supplies (R306). -/
theorem toNat_streamBefore {f : Elem → Word} {prev : Elem → Nat}
    (hprev : ∀ e d : Elem, e.val = d.val + 1 → prev e = (f d).toNat) (hfirst : prev 0 = 0) (e : Elem) :
    (streamBefore f e).toNat = prev e := by
  by_cases he : 0 < e.val
  · rw [streamBefore, if_pos he, hprev e ⟨e.val - 1, by omega⟩ (by simp; omega)]
  · obtain rfl : e = 0 := Fin.ext (by simp; omega)
    rw [streamBefore, if_neg he, hfirst]
    rfl

/-- Settles O56: the merges choose by the mask bit, the shifts are those of the scalar codes. -/
theorem vectorMergesAndShifts : Obligations.VectorMergesAndShifts := by
  refine ⟨encodes_high rfl rfl (by simp [decodeHigh, decodeRow140]),
    encodes_high rfl rfl (by simp [decodeHigh, decodeRow140]),
    encodes_high rfl rfl (by simp [decodeHigh, decodeRow150]),
    encodes_high rfl rfl (by simp [decodeHigh, decodeRow150]),
    encodes_high rfl rfl (by simp [decodeHigh, decodeRow150]),
    encodes_high rfl rfl (by simp [decodeHigh, decodeRow150]),
    fun s i j k => ⟨fun hik => ?_, fun hijk => ?_, fun hij => ⟨?_, ?_, fun next hnext hlast => ?_,
      fun prev hprev hfirst => ?_⟩⟩⟩
  · exact guardOverlap_writes (fun h => hik (of_decide_eq_true h)) _
  · exact guardOverlap_writes (fun h => hijk (by simpa using h)) _
  · exact (vectorUnary_writes hij (shl64 · (s.A k).toNat)).congr fun e => shl64_eq_ite _ _
  · exact (vectorUnary_writes hij (shr64 · (s.A k).toNat)).congr fun e => shr64_eq_ite _ _
  · exact (guardOverlap_writes (fun h => hij (of_decide_eq_true h)) _).congr fun e => by
      rw [dshl_eq_ite, toNat_streamAfter hnext hlast]
  · exact (guardOverlap_writes (fun h => hij (of_decide_eq_true h)) _).congr fun e => by
      rw [dshr_eq_ite, toNat_streamBefore hprev hfirst]

end Sys2Proof.Machine
end

section
/-! The floating-point format: the fields of a word, its value, and forced exponents. -/

namespace Sys2Proof.Machine

variable {x y : Word}

/-! ## Fields (R132, R133, R134) -/

theorem fpCoef_lt (x : Word) : fpCoef x < 2 ^ 48 := (x.extractLsb' 0 48).isLt

theorem fpOverflow_eq_false_iff : fpOverflow x = false ↔ fpExp x < 0o60000 := by simp [fpOverflow]

theorem fpUnderflow_eq_false_iff : fpUnderflow x = false ↔ 0o20000 ≤ fpExp x := by simp [fpUnderflow]

theorem fpNormal_iff : fpNormal x = true ↔ 2 ^ 47 ≤ fpCoef x := by
  have hmsb : fpNormal x = (x.extractLsb' 0 48).msb := by
    simp [fpNormal, BitVec.msb_eq_getLsbD_last]
  rw [hmsb, BitVec.msb_eq_decide]
  simp [fpCoef]

/-- A word is its three fields (R132). -/
theorem fpPack_fields (x : Word) : fpPack (fpSign x) (fpExp x) (fpCoef x) = x := by
  apply BitVec.eq_of_getLsbD_eq
  intro n hn
  simp only [fpPack, fpSign, fpExp, fpCoef, BitVec.ofNat_toNat, BitVec.setWidth_eq, BitVec.getLsbD_append,
    BitVec.getLsbD_extractLsb', BitVec.getLsbD_ofBool]
  by_cases h1 : n < 48
  · simp [h1]
  · by_cases h2 : n < 63
    · simp [h1, show n - 48 < 15 by omega, show 48 + (n - 48) = n by omega]
    · obtain rfl : n = 63 := by omega
      simp

theorem fpExp_append (s : BitVec 1) (e : BitVec 15) (c : BitVec 48) :
    fpExp ((s ++ e ++ c : BitVec 64)) = e.toNat := by
  have he : (s ++ e ++ c : BitVec 64).extractLsb' 48 15 = e := by
    ext n hn
    rw [BitVec.getElem_extractLsb', BitVec.getLsbD_append, if_neg (by omega), BitVec.getLsbD_append]
    simp [hn]
  rw [fpExp, he]

theorem fpCoef_append (s : BitVec 1) (e : BitVec 15) (c : BitVec 48) :
    fpCoef ((s ++ e ++ c : BitVec 64)) = c.toNat := by
  have hc : (s ++ e ++ c : BitVec 64).extractLsb' 0 48 = c := by
    ext n hn
    rw [BitVec.getElem_extractLsb', BitVec.getLsbD_append, if_pos (by omega)]
    simp [hn]
  rw [fpCoef, hc]

theorem fpSign_append (s : BitVec 1) (e : BitVec 15) (c : BitVec 48) :
    fpSign ((s ++ e ++ c : BitVec 64)) = s.getLsbD 0 := by
  rw [fpSign, BitVec.getLsbD_append, if_neg (by omega), BitVec.getLsbD_append, if_neg (by omega)]

@[simp] theorem fpSign_fpPack (s : Bool) (e c : Nat) : fpSign (fpPack s e c) = s := by
  rw [fpPack, fpSign_append]
  simp

theorem fpExp_fpPack (s : Bool) {e : Nat} (c : Nat) (he : e < 2 ^ 15) : fpExp (fpPack s e c) = e := by
  rw [fpPack, fpExp_append, BitVec.toNat_ofNat, Nat.mod_eq_of_lt he]

theorem fpCoef_fpPack (s : Bool) (e : Nat) {c : Nat} (hc : c < 2 ^ 48) : fpCoef (fpPack s e c) = c := by
  rw [fpPack, fpCoef_append, BitVec.toNat_ofNat, Nat.mod_eq_of_lt hc]

/-- A forced exponent is the signature (R136). -/
theorem fpExp_fpForced (op : FpOp) {signature : Nat} (h : signature < 2 ^ 15) (x y : Word) :
    fpExp (fpForced op signature x y) = signature := by
  rw [fpForced, fpExp_append, BitVec.toNat_ofNat, Nat.mod_eq_of_lt h]

/-! ## Values (R132, R133) -/

/-- The value in units of the last place of the coefficient. -/
theorem fpValue_eq (x : Word) : fpValue x = (fpSigned x : ℚ) * 2 ^ ((fpExp x : ℤ) - integerExp) := by
  have hunit : (2 : ℚ) ^ ((fpExp x : ℤ) - integerExp) = 2 ^ ((fpExp x : ℤ) - 0o40000) / 2 ^ 48 := by
    rw [integerExp, show (fpExp x : ℤ) - (0o40060 : ℕ) = ((fpExp x : ℤ) - 0o40000) - (48 : ℕ) by push_cast; ring,
      zpow_sub₀ two_ne_zero, zpow_natCast]
  rw [hunit, fpValue, fpSigned]
  split_ifs <;> push_cast <;> ring

/-- The magnitude of a word that is not in class underflow. -/
theorem abs_fpValue (h : fpUnderflow x = false) : |fpValue x| = fpCoef x * (2 : ℚ) ^ ((fpExp x : ℤ) - integerExp) := by
  have habs : |(fpSigned x : ℚ)| = fpCoef x := by
    rw [fpSigned, h, if_neg Bool.false_ne_true]
    split <;> simp
  rw [fpValue_eq, abs_mul, habs, abs_of_pos (by positivity)]

theorem fpValue_of_underflow (h : fpUnderflow x = true) : fpValue x = 0 := if_pos h

/-- The value of a word from its fields. -/
theorem fpValue_of_inRange (h : fpUnderflow x = false) :
    fpValue x = (if fpSign x then -1 else 1) * (fpCoef x : ℚ) * 2 ^ ((fpExp x : ℤ) - integerExp) := by
  rw [fpValue_eq, fpSigned, h, if_neg Bool.false_ne_true]
  split <;> push_cast <;> ring

/-! ## Inverted signs (R139) -/

theorem getLsbD_fpNegate (y : Word) {n : Nat} (h : n ≠ 63) : (fpNegate y).getLsbD n = y.getLsbD n := by
  simp [fpNegate, BitVec.getLsbD_twoPow, h.symm]

@[simp] theorem fpExp_fpNegate (y : Word) : fpExp (fpNegate y) = fpExp y := by
  have h : (fpNegate y).extractLsb' 48 15 = y.extractLsb' 48 15 := by
    ext n hn
    rw [BitVec.getElem_extractLsb', BitVec.getElem_extractLsb', getLsbD_fpNegate y (by omega)]
  rw [fpExp, fpExp, h]

@[simp] theorem fpCoef_fpNegate (y : Word) : fpCoef (fpNegate y) = fpCoef y := by
  have h : (fpNegate y).extractLsb' 0 48 = y.extractLsb' 0 48 := by
    ext n hn
    rw [BitVec.getElem_extractLsb', BitVec.getElem_extractLsb', getLsbD_fpNegate y (by omega)]
  rw [fpCoef, fpCoef, h]

@[simp] theorem fpSign_fpNegate (y : Word) : fpSign (fpNegate y) = !fpSign y := by
  simp [fpSign, fpNegate]

@[simp] theorem fpOverflow_fpNegate (y : Word) : fpOverflow (fpNegate y) = fpOverflow y := by simp [fpOverflow]

@[simp] theorem fpUnderflow_fpNegate (y : Word) : fpUnderflow (fpNegate y) = fpUnderflow y := by simp [fpUnderflow]

theorem fpValue_fpNegate (y : Word) : fpValue (fpNegate y) = -fpValue y := by
  cases h : fpUnderflow y
  · rw [fpValue_of_inRange (by rw [fpUnderflow_fpNegate, h]), fpValue_of_inRange h]
    cases hs : fpSign y <;> simp [hs]
  · rw [fpValue_of_underflow (by rw [fpUnderflow_fpNegate, h]), fpValue_of_underflow h, neg_zero]

/-! ## Regular words (R133, R134) -/

/-- A word of a normalised coefficient and an exponent in range. -/
theorem fpPack_regular (s : Bool) {e c : Nat} (he : 0o20000 ≤ e) (he' : e < 0o60000) (hc : 2 ^ 47 ≤ c)
    (hc' : c < 2 ^ 48) :
    FpRegular (fpPack s e c) ∧
      fpValue (fpPack s e c) = (if s then -1 else 1) * (c : ℚ) * 2 ^ ((e : ℤ) - integerExp) := by
  have hexp : fpExp (fpPack s e c) = e := fpExp_fpPack s c (by omega)
  have hcoef : fpCoef (fpPack s e c) = c := fpCoef_fpPack s e hc'
  have hunder : fpUnderflow (fpPack s e c) = false := by rwa [fpUnderflow_eq_false_iff, hexp]
  refine ⟨⟨?_, hunder, ?_⟩, ?_⟩
  · rwa [fpOverflow_eq_false_iff, hexp]
  · rwa [fpNormal_iff, hcoef]
  · rw [fpValue_of_inRange hunder, hexp, hcoef, fpSign_fpPack]

/-! ## Forced exponents of the approximations -/

/-- Settles O52: the cases of the two functions in their order (R149). -/
theorem approximationSpecialCases : Obligations.ApproximationSpecialCases := by
  have hrecip := fpExp_fpForced .recip (signature := 0o60002) (by decide)
  have hrsqrt := fpExp_fpForced .rsqrt (signature := 0o60004) (by decide)
  refine ⟨fun x h => ?_, fun x ho hu => ?_, fun x ho => ?_, fun x he => ?_, fun x he hs => ?_, fun x ho hu hs => ?_⟩
  · rw [recipApprox, if_pos (by simpa using h)]
    exact ⟨rfl, hrecip x 0⟩
  · rw [recipApprox, ho, hu]
    rfl
  · rw [rsqrtApprox, if_pos ho]
    exact ⟨rfl, hrsqrt x 0⟩
  · have ho : fpOverflow x = false := fpOverflow_eq_false_iff.2 (by omega)
    rw [rsqrtApprox, ho, if_neg Bool.false_ne_true, if_pos he]
    exact ⟨rfl, hrsqrt x 0⟩
  · rw [rsqrtApprox, if_neg (Nat.not_le.2 he), if_pos hs, ite_self]
    exact ⟨rfl, hrsqrt x 0⟩
  · have he : ¬ fpExp x ≤ 3 := by
      have := fpUnderflow_eq_false_iff.1 hu
      omega
    rw [rsqrtApprox, ho, hu, hs, if_neg he]
    rfl

end Sys2Proof.Machine
end

section
/-! Rounding to 48 bits, and what the add unit delivers. -/

namespace Sys2Proof.Machine

variable {x y z : Word} {n c : Nat}

/-! ## Rounding (R137) -/

/-- The number of bits of a number between two neighbouring powers of 2. -/
theorem bitLength_eq {l : Nat} (h : 2 ^ l ≤ n) (h' : n < 2 ^ (l + 1)) : bitLength n = l + 1 := by
  have hn : n ≠ 0 := by have := Nat.two_pow_pos l; omega
  rw [bitLength, if_neg hn, (Nat.log2_eq_iff hn).2 ⟨h, h'⟩]

/-- A nonzero number is between the powers of 2 at its number of bits. -/
theorem bitLength_bounds (hn : n ≠ 0) :
    ∃ l, bitLength n = l + 1 ∧ 2 ^ l ≤ n ∧ n < 2 ^ (l + 1) :=
  ⟨n.log2, by rw [bitLength, if_neg hn], Nat.log2_self_le hn, Nat.lt_log2_self⟩

/-- A number of at most 48 bits is shifted to 48 bits. -/
theorem fpRound_of_le (up : Bool) (h : bitLength n ≤ 48) :
    fpRound up n = (n * 2 ^ (48 - bitLength n), (bitLength n : ℤ) - 48) := by
  rw [fpRound, if_pos h, Nat.shiftLeft_eq]

/-- A number of more bits that has 48 bits and zeros below them keeps them. -/
theorem fpRound_mul_two_pow (up : Bool) (hc : 2 ^ 47 ≤ c) (hc' : c < 2 ^ 48) (k : Nat) :
    fpRound up (c * 2 ^ k) = (c, (k : ℤ)) := by
  have hl : bitLength (c * 2 ^ k) = 47 + k + 1 := by
    refine bitLength_eq ?_ ?_
    · rw [pow_add]
      exact Nat.mul_le_mul_right _ hc
    · rw [show 47 + k + 1 = 48 + k by omega, pow_add]
      exact Nat.mul_lt_mul_of_pos_right hc' (Nat.two_pow_pos k)
  obtain rfl | hk := Nat.eq_zero_or_pos k
  · rw [fpRound_of_le up (by omega), hl]
    simp
  · have hdrop : 47 + k + 1 - 48 = k := by omega
    have hdiv : (c * 2 ^ k) >>> k = c := by rw [Nat.shiftRight_eq_div_pow, Nat.mul_div_cancel _ (Nat.two_pow_pos k)]
    rw [fpRound, hl, if_neg (by omega), hdrop, hdiv, if_pos (.inl (Nat.shiftLeft_eq c k))]
    simp
    omega

/-- A number that `k` zeros below it make a normalised coefficient is rounded to that coefficient, its point `k` places on. -/
theorem fpRound_of_mul_two_pow (up : Bool) (hc : 2 ^ 47 ≤ c) (hc' : c < 2 ^ 48) {k : Nat} (h : n * 2 ^ k = c) :
    fpRound up n = (c, -(k : ℤ)) := by
  have hn : n ≠ 0 := by rintro rfl; omega
  obtain ⟨l, hl, hlo, hhi⟩ := bitLength_bounds hn
  have hsum : l + k = 47 := by
    have hlow : 2 ^ (l + k) < 2 ^ 48 := by
      rw [pow_add]
      exact (Nat.mul_le_mul_right _ hlo).trans_lt (h ▸ hc')
    have hhigh : 2 ^ 47 < 2 ^ (l + 1 + k) := by
      rw [pow_add _ (l + 1)]
      exact hc.trans_lt (h ▸ Nat.mul_lt_mul_of_pos_right hhi (Nat.two_pow_pos k))
    have := (Nat.pow_lt_pow_iff_right (by decide)).1 hlow
    have := (Nat.pow_lt_pow_iff_right (by decide)).1 hhigh
    omega
  rw [fpRound_of_le up (by omega), hl, show 48 - (l + 1) = k by omega, h]
  congr 1
  omega

/-- A magnitude that a normalised coefficient can hold is rounded to that coefficient. -/
theorem fpRound_exact (up : Bool) (hc : 2 ^ 47 ≤ c) (hc' : c < 2 ^ 48) {a b : ℤ}
    (h : (n : ℚ) * 2 ^ a = c * 2 ^ b) : fpRound up n = (c, b - a) := by
  obtain hab | hab := le_total a b
  · obtain ⟨k, hk⟩ := Int.le.dest hab
    have hn : n = c * 2 ^ k := by
      rw [← hk, zpow_add₀ two_ne_zero, zpow_natCast, mul_comm ((2 : ℚ) ^ a), ← mul_assoc] at h
      exact_mod_cast mul_right_cancel₀ (zpow_ne_zero a two_ne_zero) h
    rw [hn, fpRound_mul_two_pow up hc hc', ← hk, add_sub_cancel_left]
  · obtain ⟨k, hk⟩ := Int.le.dest hab
    have hn : n * 2 ^ k = c := by
      rw [← hk, zpow_add₀ two_ne_zero, zpow_natCast, mul_comm ((2 : ℚ) ^ b), ← mul_assoc] at h
      exact_mod_cast mul_right_cancel₀ (zpow_ne_zero b two_ne_zero) h
    rw [fpRound_of_mul_two_pow up hc hc' hn, ← hk, sub_add_cancel_left]

/-- A rounded coefficient is normalised. -/
theorem fpRound_normal (up : Bool) (hn : n ≠ 0) : 2 ^ 47 ≤ (fpRound up n).1 ∧ (fpRound up n).1 < 2 ^ 48 := by
  obtain ⟨l, hl, hlo, hhi⟩ := bitLength_bounds hn
  obtain hle | hgt := Nat.lt_or_ge l 48
  · rw [fpRound_of_le up (by omega), hl, show 48 - (l + 1) = 47 - l by omega]
    constructor
    · calc 2 ^ 47 = 2 ^ l * 2 ^ (47 - l) := by rw [← pow_add, Nat.add_sub_cancel' (by omega)]
        _ ≤ n * 2 ^ (47 - l) := Nat.mul_le_mul_right _ hlo
    · calc n * 2 ^ (47 - l) < 2 ^ (l + 1) * 2 ^ (47 - l) := Nat.mul_lt_mul_of_pos_right hhi (Nat.two_pow_pos _)
        _ = 2 ^ 48 := by rw [← pow_add]; congr 1; omega
  · have hq : 2 ^ 47 ≤ n >>> (l + 1 - 48) ∧ n >>> (l + 1 - 48) < 2 ^ 48 := by
      rw [Nat.shiftRight_eq_div_pow, Nat.le_div_iff_mul_le (Nat.two_pow_pos _), Nat.div_lt_iff_lt_mul (Nat.two_pow_pos _),
        ← pow_add, ← pow_add, show 47 + (l + 1 - 48) = l by omega, show 48 + (l + 1 - 48) = l + 1 by omega]
      exact ⟨hlo, hhi⟩
    rw [fpRound, hl, if_neg (by omega)]
    dsimp only
    split_ifs <;> simp only <;> omega

/-- The factor of a sign tells the sign. -/
theorem eq_of_signFactor_eq {a b : Bool} (h : (if a then -1 else 1 : ℚ) = if b then -1 else 1) : a = b := by
  revert h
  cases a <;> cases b <;> norm_num

/-- Where a regular word has a value, a sign and a magnitude with that value are its sign and, rounded, its coefficient. -/
theorem fpRound_of_value (hz : FpRegular z) {neg : Bool} {e : ℤ} (up : Bool)
    (h : (if neg then -1 else 1) * (n : ℚ) * 2 ^ (e - integerExp) = fpValue z) :
    neg = fpSign z ∧ fpRound up n = (fpCoef z, fpExp z - e) := by
  obtain ⟨-, hunder, hnormal⟩ := hz
  have hc := fpNormal_iff.1 hnormal
  have hmag : (n : ℚ) * 2 ^ (e - integerExp) = fpCoef z * 2 ^ ((fpExp z : ℤ) - integerExp) := by
    have habs := congrArg abs h
    rw [abs_fpValue hunder, abs_mul, abs_mul, abs_of_pos (by positivity : (0 : ℚ) < 2 ^ (e - integerExp)), Nat.abs_cast]
      at habs
    rw [← habs]
    split <;> simp
  constructor
  · have hpos : (0 : ℚ) < fpCoef z * 2 ^ ((fpExp z : ℤ) - integerExp) := by
      have : (0 : ℚ) < fpCoef z := by exact_mod_cast (by omega : 0 < fpCoef z)
      positivity
    rw [fpValue_of_inRange hunder, mul_assoc, mul_assoc, hmag] at h
    exact eq_of_signFactor_eq (mul_right_cancel₀ hpos.ne' h)
  · rw [fpRound_exact up hc (fpCoef_lt z) hmag]
    congr 1
    ring

/-! ## Sums (R138, R139) -/

/-- A word's value in units of a place no higher than its last. -/
theorem fpSigned_scaled {e : Nat} (h : fpUnderflow x = false → e ≤ fpExp x) :
    ((fpSigned x * 2 ^ (fpExp x - e) : ℤ) : ℚ) * 2 ^ ((e : ℤ) - integerExp) = fpValue x := by
  rw [fpValue_eq]
  cases hu : fpUnderflow x
  · rw [show (fpExp x : ℤ) - integerExp = (fpExp x - e : ℕ) + ((e : ℤ) - integerExp) by
      rw [Nat.cast_sub (h hu)]; ring, zpow_add₀ two_ne_zero, zpow_natCast]
    push_cast
    ring
  · simp [fpSigned, hu]

/-- The exact sum has the value of the sum. -/
theorem fpExactSum_value (x y : Word) :
    (fpExactSum x y : ℚ) * 2 ^ ((fpCommonExp x y : ℤ) - integerExp) = fpValue x + fpValue y := by
  have hx : fpUnderflow x = false → fpCommonExp x y ≤ fpExp x := fun hu => by
    rw [fpCommonExp, hu, if_neg Bool.false_ne_true]
    split
    · exact le_rfl
    · exact min_le_left _ _
  have hy : fpUnderflow y = false → fpCommonExp x y ≤ fpExp y := fun hu => by
    rw [fpCommonExp, hu, if_neg Bool.false_ne_true]
    split
    · exact le_rfl
    · exact min_le_right _ _
  rw [← fpSigned_scaled hx, ← fpSigned_scaled hy, fpExactSum, Int.cast_add, add_mul]

/-- An integer by its sign and magnitude. -/
theorem sign_mul_natAbs (m : ℤ) : (if decide (m < 0) then -1 else 1) * (m.natAbs : ℚ) = m := by
  rw [Nat.cast_natAbs]
  by_cases h : m < 0
  · simp [h, abs_of_neg h]
  · simp [h, abs_of_nonneg (not_lt.1 h)]

/-- A sum that a regular word can hold is delivered as that word. -/
theorem fpDeliverSum_exact (hz : FpRegular z) {m : ℤ} {e : Nat}
    (h : (m : ℚ) * 2 ^ ((e : ℤ) - integerExp) = fpValue z) : fpDeliverSum x y m e = (z, false) := by
  rw [← sign_mul_natAbs] at h
  obtain ⟨hsign, hround⟩ := fpRound_of_value hz (Config.roundsUp .add x y) h
  obtain ⟨hover, hunder, -⟩ := hz
  have hlt := fpOverflow_eq_false_iff.1 hover
  have hge := fpUnderflow_eq_false_iff.1 hunder
  rw [fpDeliverSum, hround]
  dsimp only
  rw [add_sub_cancel, if_neg (by omega), if_neg (by omega), hsign, Int.toNat_natCast, fpPack_fields]

/-- The words a nonzero sum can be delivered as (R138; log 34). -/
theorem fpDeliverSum_cases {m : ℤ} (hm : m ≠ 0) (e : Nat) {r : Word × Bool} (h : fpDeliverSum x y m e = r) :
    r = (0, false) ∨ (fpNormal r.1 = true ∧ fpExp r.1 < 0o60000 ∧ r.2 = false) ∨ fpExp r.1 = 0o60000 := by
  subst h
  obtain ⟨hc, hc'⟩ := fpRound_normal (Config.roundsUp .add x y) (Int.natAbs_ne_zero.2 hm)
  rw [fpDeliverSum]
  split_ifs with hbig hsmall
  · exact .inr (.inr (fpExp_fpForced _ (by decide) x y))
  · exact .inl rfl
  · refine .inr (.inl ⟨?_, ?_, rfl⟩)
    · rwa [fpNormal_iff, fpCoef_fpPack _ _ hc']
    · rw [fpExp_fpPack _ _ (by omega)]
      omega

theorem fadd_of_overflow (h : fpOverflow x = true ∨ fpOverflow y = true) :
    fadd x y = (fpForced .add 0o60000 x y, true) := by
  rw [fadd, if_pos (by simpa using h)]

theorem fadd_of_inRange (hx : fpOverflow x = false) (hy : fpOverflow y = false) :
    fadd x y = if fpExactSum x y = 0 then (0, false) else fpDeliverSum x y (fpExactSum x y) (fpCommonExp x y) := by
  rw [fadd, hx, hy]
  rfl

/-- A sum of value zero is the word of all zeros (R138). -/
theorem fadd_zero (hx : fpOverflow x = false) (hy : fpOverflow y = false) (h : fpValue x + fpValue y = 0) :
    fadd x y = (0, false) := by
  rw [← fpExactSum_value] at h
  have hsum : fpExactSum x y = 0 := by
    exact_mod_cast (mul_eq_zero.1 h).resolve_right (zpow_ne_zero _ two_ne_zero)
  rw [fadd_of_inRange hx hy, if_pos hsum]

/-- A sum that a regular word can hold is that word (R137, R138). -/
theorem fadd_exact (hx : fpOverflow x = false) (hy : fpOverflow y = false) (hz : FpRegular z)
    (h : fpValue x + fpValue y = fpValue z) : fadd x y = (z, false) := by
  rw [← fpExactSum_value] at h
  rw [fadd_of_inRange hx hy]
  split
  next hsum =>
    obtain ⟨-, hunder, hnormal⟩ := hz
    have hc := fpNormal_iff.1 hnormal
    rw [hsum, Int.cast_zero, zero_mul] at h
    have habs := abs_fpValue hunder
    rw [← h, abs_zero, eq_comm, mul_eq_zero] at habs
    have : fpCoef z = 0 := by exact_mod_cast habs.resolve_right (zpow_ne_zero _ two_ne_zero)
    omega
  next => exact fpDeliverSum_exact hz h

theorem fadd_cases (hx : fpOverflow x = false) (hy : fpOverflow y = false) {r : Word × Bool} (h : r = fadd x y) :
    r = (0, false) ∨ (fpNormal r.1 = true ∧ fpExp r.1 < 0o60000 ∧ r.2 = false) ∨ fpExp r.1 = 0o60000 := by
  rw [fadd_of_inRange hx hy] at h
  split at h
  next => exact .inl h
  next hsum => exact fpDeliverSum_cases hsum _ h.symm

/-- Settles O48: a difference is the sum with the sign of y inverted (R139). -/
theorem floatingSumsAreExactWhereRepresentable : Obligations.FloatingSumsAreExactWhereRepresentable := by
  intro x y hx hy
  have hy' : fpOverflow (fpNegate y) = false := by rw [fpOverflow_fpNegate, hy]
  have hsub : fpValue x - fpValue y = fpValue x + fpValue (fpNegate y) := by rw [fpValue_fpNegate, sub_eq_add_neg]
  rw [hsub]
  exact ⟨fun z hz => fadd_exact hx hy hz, fun z hz => fadd_exact hx hy' hz, fadd_zero hx hy, fadd_zero hx hy'⟩

/-- Settles O49: an operand and its negative are in class overflow together. -/
theorem floatingAddOverflowIsForced : Obligations.FloatingAddOverflowIsForced := by
  have hexp := fpExp_fpForced .add (signature := 0o60000) (by decide)
  refine fun x y => ⟨fun h => ?_, fun hx hy r h => ?_⟩
  · have h' : fpOverflow x = true ∨ fpOverflow (fpNegate y) = true := by rwa [fpOverflow_fpNegate]
    rw [fsub, fadd_of_overflow h, fadd_of_overflow h']
    exact ⟨rfl, hexp x y, rfl, hexp x _⟩
  · obtain h | h := h
    · exact fadd_cases hx hy h
    · exact fadd_cases hx (by rw [fpOverflow_fpNegate, hy]) h

end Sys2Proof.Machine
end

section
/-! Conversions between words and 48-bit integers, and products. -/

namespace Sys2Proof.Machine

variable {x y z : Word}

/-! ## Flt (R141) -/

/-- Flt reads a 48-bit integer from its sign-extended word. -/
theorem fltInteger_ofInt {n : ℤ} (hlo : -2 ^ 47 ≤ n) (hhi : n < 2 ^ 47) : fltInteger (BitVec.ofInt 64 n) = n := by
  have hlow : (BitVec.ofInt 64 n).extractLsb' 0 48 = BitVec.ofInt 48 n := by
    apply BitVec.eq_of_toNat_eq
    rw [BitVec.extractLsb'_toNat, BitVec.toNat_ofInt, BitVec.toNat_ofInt, Nat.shiftRight_zero]
    omega
  have hint : (BitVec.ofInt 48 n).toInt = n := BitVec.toInt_ofInt_eq_self (by decide) hlo hhi
  rw [fltInteger, hlow, hint]
  exact if_pos (by rw [BitVec.signExtend, hint])

theorem flt_of_zero (h : fltInteger x = 0) : flt x = (0, false) := by
  rw [flt, h]
  rfl

/-- A magnitude of at most 48 bits is converted exactly, and normalised. -/
theorem flt_exact {n : ℤ} (h : fltInteger x = n) (hn : n ≠ 0) (hlt : n.natAbs < 2 ^ 48) :
    FpRegular (flt x).1 ∧ fpValue (flt x).1 = n := by
  have hn' := Int.natAbs_ne_zero.2 hn
  obtain ⟨l, hl, hlo, -⟩ := bitLength_bounds hn'
  have hl48 : l < 48 := (Nat.pow_lt_pow_iff_right (by decide)).1 (hlo.trans_lt hlt)
  have hround := fpRound_of_le false (n := n.natAbs) (by omega)
  obtain ⟨hc, hc'⟩ := fpRound_normal false hn'
  rw [hround, hl] at hc hc'
  have hexp : ((integerExp : ℤ) + (((l + 1 : ℕ) : ℤ) - 48)).toNat = integerExp - 48 + (l + 1) := by
    rw [integerExp]; omega
  have hflt : (flt x).1 = fpPack (decide (n < 0)) (integerExp - 48 + (l + 1)) (n.natAbs * 2 ^ (48 - (l + 1))) := by
    rw [flt, h, if_neg hn, hround, hl, ← hexp]
  obtain ⟨hreg, hval⟩ := fpPack_regular (decide (n < 0)) (e := integerExp - 48 + (l + 1))
    (by rw [integerExp]; omega) (by rw [integerExp]; omega) hc hc'
  rw [hflt]
  refine ⟨hreg, hval.trans ?_⟩
  have hplace : ((integerExp - 48 + (l + 1) : ℕ) : ℤ) - integerExp = -((48 - (l + 1) : ℕ) : ℤ) := by
    rw [integerExp]; omega
  have hpow : (2 : ℚ) ^ (48 - (l + 1)) ≠ 0 := by positivity
  rw [hplace, zpow_neg, zpow_natCast, Nat.cast_mul, Nat.cast_pow, Nat.cast_ofNat, ← mul_assoc, mul_assoc,
    mul_inv_cancel₀ hpow, mul_one, sign_mul_natAbs]

theorem flt_never_errs (x : Word) : (flt x).2 = false := by
  rw [flt]
  dsimp only
  split <;> rfl

/-! ## Fix (R140) -/

/-- The magnitude at an exponent that makes the coefficient an integer. -/
theorem abs_fpValue_of_le (hu : fpUnderflow x = false) (h : integerExp ≤ fpExp x) :
    |fpValue x| = (fpCoef x * 2 ^ (fpExp x - integerExp) : ℕ) := by
  rw [abs_fpValue hu, ← Nat.cast_sub h, zpow_natCast]
  push_cast
  rfl

/-- The magnitude at a smaller exponent. -/
theorem abs_fpValue_mul (hu : fpUnderflow x = false) (h : fpExp x < integerExp) :
    |fpValue x| * 2 ^ (integerExp - fpExp x) = fpCoef x := by
  rw [abs_fpValue hu, show (fpExp x : ℤ) - integerExp = -((integerExp - fpExp x : ℕ) : ℤ) by omega, zpow_neg,
    zpow_natCast, mul_assoc, inv_mul_cancel₀ (by positivity), mul_one]

/-- The integer below an integer magnitude is that integer. -/
theorem fixMagnitude_exact (hu : fpUnderflow x = false) {m : Nat} (h : |fpValue x| = m) :
    fixMagnitude x = (m, true) := by
  obtain hlt | hle := Nat.lt_or_ge (fpExp x) integerExp
  · have hcoef := abs_fpValue_mul hu hlt
    rw [h] at hcoef
    have hcoef : m * 2 ^ (integerExp - fpExp x) = fpCoef x := by exact_mod_cast hcoef
    rw [fixMagnitude, if_neg (Nat.not_le.2 hlt), ← hcoef]
    dsimp only
    rw [Nat.shiftRight_eq_div_pow, Nat.mul_div_cancel _ (Nat.two_pow_pos _), Nat.shiftLeft_eq, decide_eq_true rfl]
  · rw [abs_fpValue_of_le hu hle, Nat.cast_inj] at h
    rw [fixMagnitude, if_pos hle, Nat.shiftLeft_eq, h]

/-- A magnitude of 2^48 or more is at an exponent that makes the coefficient an integer. -/
theorem fixMagnitude_large (hu : fpUnderflow x = false) (h : (2 : ℚ) ^ 48 ≤ |fpValue x|) :
    2 ^ 48 ≤ (fixMagnitude x).1 := by
  have hle : integerExp ≤ fpExp x := by
    by_contra hlt
    have hpow : (1 : ℚ) ≤ 2 ^ (integerExp - fpExp x) := one_le_pow₀ one_le_two
    have hcoef : |fpValue x| ≤ fpCoef x :=
      (le_mul_of_one_le_right (abs_nonneg _) hpow).trans_eq (abs_fpValue_mul hu (Nat.not_le.1 hlt))
    have hbig : 2 ^ 48 ≤ fpCoef x := by exact_mod_cast h.trans hcoef
    exact absurd (fpCoef_lt x) (Nat.not_lt.2 hbig)
  rw [abs_fpValue_of_le hu hle] at h
  rw [fixMagnitude, if_pos hle, Nat.shiftLeft_eq]
  exact_mod_cast h

/-- A value is its magnitude with its sign. -/
theorem fpValue_eq_sign_mul_abs (hu : fpUnderflow x = false) :
    fpValue x = (if fpSign x then -1 else 1) * |fpValue x| := by
  rw [abs_fpValue hu, fpValue_of_inRange hu, mul_assoc]

/-- Integers of magnitude below 2^47 are fixed exactly. -/
theorem fix_exact {n : ℤ} (ho : fpOverflow x = false) (hn : |n| < 2 ^ 47) (h : fpValue x = n) :
    fix x = (BitVec.ofInt 64 n, false) := by
  rw [fix, ho, if_neg Bool.false_ne_true]
  cases hu : fpUnderflow x
  · have habs : |fpValue x| = n.natAbs := by rw [h, Nat.cast_natAbs, Int.cast_abs]
    have hsmall : n.natAbs < 2 ^ 47 := by
      rw [Int.abs_eq_natAbs] at hn
      exact_mod_cast hn
    have hsign : (if fpSign x then -(n.natAbs : ℤ) else n.natAbs) = n := by
      have hval := fpValue_eq_sign_mul_abs hu
      rw [habs, h] at hval
      apply Int.cast_injective (α := ℚ)
      rw [hval]
      split <;> simp
    rw [if_neg Bool.false_ne_true, fixMagnitude_exact hu habs]
    dsimp only
    rw [if_neg (by omega), if_neg (by omega), Bool.true_or, if_pos rfl, hsign]
  · rw [fpValue_of_underflow hu] at h
    obtain rfl : n = 0 := by exact_mod_cast h.symm
    rfl

/-- A word in class overflow or of magnitude 2^48 or more has no fixed form. -/
theorem fix_large (h : fpOverflow x = true ∨ (2 : ℚ) ^ 48 ≤ |fpValue x|) : fix x = (0, true) := by
  rw [fix]
  split
  next => rfl
  next ho =>
    have hlarge := h.resolve_left ho
    have hu : fpUnderflow x = false := by
      by_contra hu
      rw [fpValue_of_underflow (by simpa using hu)] at hlarge
      norm_num at hlarge
    rw [hu, if_neg Bool.false_ne_true]
    exact if_pos (fixMagnitude_large hu hlarge)

/-- Settles O50: both conversions keep the value of a 48-bit integer. -/
theorem fixAndFloatAreExactOnIntegers : Obligations.FixAndFloatAreExactOnIntegers := by
  refine ⟨fun n hlo hhi => ⟨flt_never_errs _, ?_⟩, fun x n => fix_exact, fun x => fix_large, flt_never_errs⟩
  have hint := fltInteger_ofInt hlo hhi
  by_cases hn : n = 0
  · have hzero := congrArg Prod.fst (flt_of_zero (hint.trans hn))
    rw [hzero, hn, Int.cast_zero]
    exact ⟨fpValue_of_underflow rfl, fun _ => rfl, fun h => absurd rfl h⟩
  · obtain ⟨hreg, hval⟩ := flt_exact hint hn (by omega)
    exact ⟨hval, fun h => absurd h hn, fun _ => hreg⟩

/-! ## Products (R142, R143, R148) -/

theorem fmul_of_overflow (h : fpOverflow x = true ∨ fpOverflow y = true) :
    fmul x y = (fpForced .mul 0o60001 x y, true) := by
  rw [fmul, if_pos (by simpa using h)]

/-- Both exponents zero: the integer multiply (R143). -/
theorem fmul_integer (hx : fpExp x = 0) (hy : fpExp y = 0) : fmul x y = (mulInteger x y, false) := by
  have ho : (fpOverflow x || fpOverflow y) = false := by simp [fpOverflow, hx, hy]
  rw [fmul, ho, if_neg Bool.false_ne_true, if_pos ⟨hx, hy⟩]

/-- Other operands in range go by the sum of their exponents (R142). -/
theorem fmul_of_inRange (hx : fpOverflow x = false) (hy : fpOverflow y = false) (h : ¬ (fpExp x = 0 ∧ fpExp y = 0)) :
    fmul x y =
      if 0o120000 < mulExps x y then (fpForced .mul 0o60001 x y, true)
      else if mulExps x y = 0o120000 then
        if mulShifts x y = true ∧ Config.mulTestsAfterShift x y = true then mulProduct x y
        else (fpForced .mul 0o60001 x y, true)
      else if mulExps x y < 0o60000 then (0, false)
      else if (fpUnderflow x || fpUnderflow y) = true ∧ Config.mulSmallIsZero x y = true then (0, false)
      else if mulExps x y = 0o60000 ∧ mulShifts x y = true ∧ Config.mulTestsAfterShift x y = true then (0, false)
      else mulProduct x y := by
  rw [fmul, hx, hy, if_neg h]
  rfl

theorem mulShifts_eq_false (h : 2 ^ 95 ≤ fpCoef x * fpCoef y) : mulShifts x y = false :=
  decide_eq_false (Nat.not_lt.2 h)

/-- A product out of range is forced and an error (R136, R142). -/
theorem fmul_forced (h : fpOverflow x = true ∨ fpOverflow y = true ∨ 0o120000 < fpExp x + fpExp y ∨
    (fpExp x + fpExp y = 0o120000 ∧ 2 ^ 95 ≤ fpCoef x * fpCoef y)) :
    fmul x y = (fpForced .mul 0o60001 x y, true) := by
  by_cases ho : fpOverflow x = true ∨ fpOverflow y = true
  · exact fmul_of_overflow ho
  · obtain ⟨hx, hy⟩ := not_or.1 ho
    have hedge := (h.resolve_left hx).resolve_left hy
    rw [fmul_of_inRange (by simpa using hx) (by simpa using hy) (by omega)]
    obtain hbig | ⟨hsum, hcoef⟩ := hedge
    · exact if_pos hbig
    · have hsum : mulExps x y = 0o120000 := hsum
      rw [if_neg (by omega), if_pos hsum, mulShifts_eq_false hcoef]
      rfl

/-- A product too small is the word of all zeros (R148). -/
theorem fmul_small (hx : fpOverflow x = false) (hy : fpOverflow y = false) (h : ¬ (fpExp x = 0 ∧ fpExp y = 0))
    (hsum : fpExp x + fpExp y < 0o60000) : fmul x y = (0, false) := by
  have hsum : mulExps x y < 0o60000 := hsum
  rw [fmul_of_inRange hx hy h, if_neg (by omega), if_neg (by omega), if_pos hsum]

/-- The fields of the integer multiply (R143). -/
theorem mulInteger_fields (x y : Word) :
    fpSign (mulInteger x y) = false ∧ fpExp (mulInteger x y) = 0 ∧
      (2 ^ 48 ∣ fpCoef x * fpCoef y → fpCoef (mulInteger x y) = fpCoef x * fpCoef y / 2 ^ 48) := by
  refine ⟨fpSign_fpPack _ _ _, fpExp_fpPack _ _ (by decide), fun hdvd => ?_⟩
  have hexact : (fpCoef x * fpCoef y) >>> 48 <<< 48 = fpCoef x * fpCoef y := by
    rw [Nat.shiftRight_eq_div_pow, Nat.shiftLeft_eq, Nat.div_mul_cancel hdvd]
  have hlt : fpCoef x * fpCoef y / 2 ^ 48 < 2 ^ 48 :=
    Nat.div_lt_of_lt_mul (Nat.mul_lt_mul'' (fpCoef_lt x) (fpCoef_lt y))
  rw [mulInteger, mulCoefs, if_pos (.inl hexact), Nat.shiftRight_eq_div_pow, fpCoef_fpPack _ _ hlt]

/-- The product of the values, by the product of the coefficients and the sum of the exponents. -/
theorem fpValue_mul (hx : fpUnderflow x = false) (hy : fpUnderflow y = false) :
    fpValue x * fpValue y = (if mulSign x y then -1 else 1) * (mulCoefs x y : ℚ) *
      2 ^ (((mulExps x y : ℤ) - 0o40000 - 48) - integerExp) := by
  have hexp : ((mulExps x y : ℤ) - 0o40000 - 48) - integerExp =
      ((fpExp x : ℤ) - integerExp) + ((fpExp y : ℤ) - integerExp) := by
    rw [mulExps, integerExp]
    push_cast
    ring
  rw [fpValue_of_inRange hx, fpValue_of_inRange hy, hexp, zpow_add₀ two_ne_zero, mulCoefs, mulSign]
  cases fpSign x <;> cases fpSign y <;> (simp; ring)

/-- A product of normalised operands that a regular word can hold is that word (R137, R142). -/
theorem mulNormal_exact (hx : fpUnderflow x = false) (hy : fpUnderflow y = false) (hz : FpRegular z)
    (h : fpValue x * fpValue y = fpValue z) : mulNormal x y = (z, false) := by
  rw [fpValue_mul hx hy] at h
  obtain ⟨hsign, hround⟩ := fpRound_of_value hz (Config.roundsUp .mul x y) h
  obtain ⟨hover, -, -⟩ := hz
  have hlt := fpOverflow_eq_false_iff.1 hover
  rw [mulNormal, hround]
  dsimp only
  rw [add_sub_cancel, if_neg (by omega), hsign, Int.toNat_natCast, fpPack_fields]

theorem fmul_exact (hx : FpRegular x) (hy : FpRegular y) (hz : FpRegular z)
    (hlow : 0o60000 < fpExp x + fpExp y ∨ (fpExp x + fpExp y = 0o60000 ∧ 2 ^ 95 ≤ fpCoef x * fpCoef y))
    (hhigh : fpExp x + fpExp y < 0o120000) (h : fpValue x * fpValue y = fpValue z) : fmul x y = (z, false) := by
  obtain ⟨hxo, hxu, hxn⟩ := hx
  obtain ⟨hyo, hyu, hyn⟩ := hy
  have hhigh : mulExps x y < 0o120000 := hhigh
  have hlow' : 0o60000 ≤ mulExps x y := hlow.elim le_of_lt fun hedge => hedge.1.ge
  have hedge : ¬ (mulExps x y = 0o60000 ∧ mulShifts x y = true ∧ Config.mulTestsAfterShift x y = true) := by
    rintro ⟨hsum, hshift, -⟩
    obtain hlt | ⟨-, hcoef⟩ := hlow
    · exact hlt.ne' hsum
    · exact Bool.false_ne_true ((mulShifts_eq_false hcoef).symm.trans hshift)
  have hnonzero : ¬ (fpExp x = 0 ∧ fpExp y = 0) := fun ⟨hx0, _⟩ => by
    have := fpUnderflow_eq_false_iff.1 hxu
    omega
  rw [fmul_of_inRange hxo hyo hnonzero, if_neg (by omega), if_neg (by omega), if_neg (by omega), hxu, hyu,
    if_neg (by simp), if_neg hedge, mulProduct, hxn, hyn]
  exact mulNormal_exact hxu hyu hz h

/-- Settles O51: the forced products, the integer multiply, the small products and the exact ones. -/
theorem floatingProducts : Obligations.FloatingProducts := by
  refine ⟨fun x y h => ?_, fun x y hx hy => ?_, fun x y => fmul_small, fun x y z => fmul_exact⟩
  · rw [fmul_forced h]
    exact ⟨rfl, fpExp_fpForced .mul (by decide) x y⟩
  · rw [fmul_integer hx hy]
    exact ⟨rfl, mulInteger_fields x y⟩

end Sys2Proof.Machine
end

section
/-! The jumps, 002 and 003: the return address and P. -/

namespace Sys2Proof.Machine

/-- A jump through A[k] reads the register before the return address is written, so it goes to the old A[k] also where i = k (R162). -/
theorem jumpLink_completes (s : State) (i k : Reg) :
    Completes (.next ((s.setA i (s.p + 1)).jump (s.A k))) s (fun l => l = .p ∨ l = .a i)
      (fun t => t.p = s.A k ∧ t.A i = s.p + 1) :=
  ⟨_, rfl, ⟨rfl, by simp⟩, ((s.setA_frame i (s.p + 1)).trans (State.jump_frame _ (s.A k))).mono fun _ => Or.symm⟩

/-- Settles O20: both forms of 002 are one jump, `j ak` its case i = k. -/
theorem jumpsTransferControl : Obligations.JumpsTransferControl :=
  ⟨encodes_low rfl rfl (by simp [decodeLow, decodeRow000]), encodes_low rfl rfl (by simp [decodeLow, decodeRow000]),
    fun s i k c => ⟨jumpLink_completes s i k, jumpLink_completes s k k, ⟨_, rfl, rfl, s.jump_frame c⟩⟩⟩

end Sys2Proof.Machine
end

section
/-! The A registers and the halt enables: 020 to 027, 035 and 040 to 043. -/

namespace Sys2Proof.Machine

/-! ## Constants and transfers as numbers (R96, R123) -/

/-- Zeros above a field leave its number (R123). -/
theorem zero_append_eq_ofNat {n : Nat} (m : Nat) (x : BitVec n) : 0#m ++ x = BitVec.ofNat (m + n) x.toNat := by
  apply BitVec.eq_of_toNat_eq
  have hlt : x.toNat < 2 ^ (m + n) := x.isLt.trans_le (Nat.pow_le_pow_right two_pos (Nat.le_add_left n m))
  simp [BitVec.toNat_append, Nat.mod_eq_of_lt hlt]

/-- Zeros above the field jk (R186). -/
theorem shortConst_eq (jk : BitVec 6) : shortConst jk = BitVec.ofNat 32 jk.toNat := zero_append_eq_ofNat 26 jk

/-- Zeros above the constant parcel (R199). -/
theorem parcelConst_eq (m : Parcel) : parcelConst m = BitVec.ofNat 32 m.toNat := zero_append_eq_ofNat 16 m

/-- Ones above the field jk (R187). -/
theorem shortNegConst_eq (jk : BitVec 6) : shortNegConst jk = 0xFFFFFFC0 + BitVec.ofNat 32 jk.toNat := by
  rw [shortNegConst, ← BitVec.append_zero_add_zero_append, zero_append_eq_ofNat]
  rfl

/-- Ones above the constant parcel (R200). -/
theorem parcelNegConst_eq (m : Parcel) : parcelNegConst m = 0xFFFF0000 + BitVec.ofNat 32 m.toNat := by
  rw [parcelNegConst, ← BitVec.append_zero_add_zero_append, zero_append_eq_ofNat]
  rfl

/-! ## Results in A registers -/

/-- A result for an A register is written there, and nothing else but P changes. -/
theorem resultA_writes (i : Reg) (v : Addr) (len : Nat) (s : State) : WritesA (resultA i v len s) s i v len :=
  ⟨_, rfl, ⟨by simp, rfl⟩, ((s.setA_frame i v).trans (State.advance_frame _ len)).mono fun _ => Or.symm⟩

/-- Settles O25: the operands are those before the result is written, and the operations of bit vectors are those of numbers modulo 2^32 (R120). -/
theorem addressArithmeticWraps : Obligations.AddressArithmeticWraps := by
  refine ⟨encodes_low rfl rfl (by simp [decodeLow, decodeRow020]),
    encodes_low rfl rfl (by simp [decodeLow, decodeRow020]),
    encodes_low rfl rfl (by simp [decodeLow, decodeRow020]), encodes_low rfl rfl (by simp [decodeLow, decodeRow020]),
    fun s i j k => ?_⟩
  have hadd : BitVec.ofNat 32 ((s.A j).toNat + (s.A k).toNat) = s.A j + s.A k := by simp [BitVec.ofNat_add]
  have hsub : BitVec.ofInt 32 ((s.A j).toInt - (s.A k).toInt) = s.A j - s.A k :=
    BitVec.eq_of_toInt_eq (by rw [BitVec.toInt_sub, BitVec.toInt_ofInt])
  have hmul : BitVec.ofNat 32 ((s.A j).toNat * (s.A k).toNat) = s.A j * s.A k := by simp [BitVec.ofNat_mul]
  rw [hadd, hsub, hmul]
  exact ⟨resultA_writes .., resultA_writes .., resultA_writes .., resultA_writes ..⟩

/-- Settles O26: each instruction is one result in an A register, its value read as a number. -/
theorem addressRegistersAreEntered : Obligations.AddressRegistersAreEntered := by
  refine ⟨encodes_low rfl rfl (by simp [decodeLow, decodeRow020]),
    encodes_low rfl rfl (by simp [decodeLow, decodeRow020]),
    encodes_low rfl rfl (by simp [decodeLow, decodeRow020]), encodes_low rfl rfl (by simp [decodeLow, decodeRow020]),
    encodes_low rfl rfl (by simp [decodeLow, decodeRow040]), encodes_low rfl rfl (by simp [decodeLow, decodeRow040]),
    encodes_low rfl rfl (by simp [decodeLow, decodeRow040]), encodes_low rfl rfl (by simp [decodeLow, decodeRow040]),
    fun s i j jk m c => ?_⟩
  have hlow : BitVec.ofNat 32 ((s.S j).toNat % 2 ^ 32) = low32 (s.S j) := by
    rw [low32_eq]
    exact BitVec.eq_of_toNat_eq (by simp)
  have hvl : BitVec.ofNat 32 s.vl.toNat = 0#26 ++ s.vl := (zero_append_eq_ofNat 26 s.vl).symm
  rw [hlow, hvl, ← shortNegConst_eq, ← shortConst_eq, ← parcelNegConst_eq, ← parcelConst_eq]
  exact ⟨resultA_writes .., resultA_writes .., resultA_writes .., resultA_writes .., resultA_writes ..,
    resultA_writes .., resultA_writes .., resultA_writes ..⟩

/-! ## The halt enables -/

theorem State.setRangeHaltEnable_frame (s : State) (b : Bool) :
    Frame (· = .rangeHaltEnable) s (s.setBps { s.bps with rangeHaltEnable := b }) := by
  intro l hl
  cases l with
  | rangeHaltEnable => exact absurd rfl hl
  | cm a => exact ⟨rfl, rfl⟩
  | _ => rfl

theorem State.setFpEnable_frame (s : State) (b : Bool) :
    Frame (· = .fpEnable) s (s.setBps { s.bps with fpEnable := b }) := by
  intro l hl
  cases l with
  | fpEnable => exact absurd rfl hl
  | cm a => exact ⟨rfl, rfl⟩
  | _ => rfl

/-- An instruction of one parcel that writes the halt enable for range errors (R193, R194). -/
theorem setRangeHaltEnable_completes (s : State) (b : Bool) :
    Completes (.next ((s.setBps { s.bps with rangeHaltEnable := b }).advance 1)) s
      (fun l => l = .p ∨ l = .rangeHaltEnable) (fun t => t.bps.rangeHaltEnable = b ∧ t.p = s.p + 1) :=
  ⟨_, rfl, ⟨rfl, rfl⟩, ((s.setRangeHaltEnable_frame b).trans (State.advance_frame _ 1)).mono fun _ => Or.symm⟩

/-- An instruction of one parcel that writes the halt enable for floating-point errors (R195, R196). -/
theorem setFpEnable_completes (s : State) (b : Bool) :
    Completes (.next ((s.setBps { s.bps with fpEnable := b }).advance 1)) s
      (fun l => l = .p ∨ l = .fpEnable) (fun t => t.bps.fpEnable = b ∧ t.p = s.p + 1) :=
  ⟨_, rfl, ⟨rfl, rfl⟩, ((s.setFpEnable_frame b).trans (State.advance_frame _ 1)).mono fun _ => Or.symm⟩

/-- Settles O28: the sub-codes 0 to 3 of 035 clear and set the two enables. -/
theorem haltEnablesAreSet : Obligations.HaltEnablesAreSet := by
  refine ⟨fun i j m1 m2 m3 m4 => ?_, rfl, fun s => ⟨setRangeHaltEnable_completes s false,
    setRangeHaltEnable_completes s true, setFpEnable_completes s false, setFpEnable_completes s true⟩⟩
  simp only [decodeParcels_parcelOf]
  simp [decodeLow, decodeRow030]

end Sys2Proof.Machine
end

section
/-! Constants into S registers, 050 to 053, 116 and 117, and the instructions that only pass: 076, 077, 135 and, without Shared registers, 134, 136 and 137. -/

namespace Sys2Proof.Machine

/-! ## 64-bit constants as numbers (R96) -/

/-- Zeros below a field multiply its number (R96). -/
theorem append_zero_eq_ofNat {n : Nat} (m : Nat) (x : BitVec n) : x ++ 0#m = BitVec.ofNat (n + m) (x.toNat * 2 ^ m) := by
  have hlt : x.toNat * 2 ^ m < 2 ^ (n + m) := by
    rw [pow_add]
    exact Nat.mul_lt_mul_of_pos_right x.isLt (Nat.two_pow_pos m)
  apply BitVec.eq_of_toNat_eq
  simp [BitVec.toNat_append, Nat.shiftLeft_eq, Nat.mod_eq_of_lt hlt]

/-- Ones above a field add to its number; they are not its sign (R96). -/
theorem allOnes_append_eq_add {n : Nat} (m : Nat) (x : BitVec n) :
    BitVec.allOnes m ++ x = (BitVec.allOnes m ++ 0#n) + BitVec.ofNat (m + n) x.toNat := by
  rw [← BitVec.append_zero_add_zero_append, zero_append_eq_ofNat]

/-- Zeros above m1:m2 (R210). -/
theorem halfConstS_eq (c : BitVec 32) : halfConstS c = BitVec.ofNat 64 c.toNat := zero_append_eq_ofNat 32 c

/-- Ones above m1:m2 (R211). -/
theorem halfNegConstS_eq (c : BitVec 32) : halfNegConstS c = 0xFFFFFFFF00000000 + BitVec.ofNat 64 c.toNat :=
  allOnes_append_eq_add 32 c

/-- Zeros below m1:m2 (R212). -/
theorem leftConstS_eq (c : BitVec 32) : leftConstS c = BitVec.ofNat 64 (c.toNat * 2 ^ 32) := append_zero_eq_ofNat 32 c

/-- Zeros above the field jk (R266). -/
theorem shortConstS_eq (jk : BitVec 6) : shortConstS jk = BitVec.ofNat 64 jk.toNat := zero_append_eq_ofNat 58 jk

/-- Ones above the field jk (R267). -/
theorem shortNegConstS_eq (jk : BitVec 6) : shortNegConstS jk = 0xFFFFFFFFFFFFFFC0 + BitVec.ofNat 64 jk.toNat :=
  allOnes_append_eq_add 58 jk

/-- Settles O33: each instruction is one result in an S register, its value read as a number. -/
theorem scalarRegistersAreEntered : Obligations.ScalarRegistersAreEntered := by
  refine ⟨encodes_low rfl rfl (by simp [decodeLow, decodeRow050]),
    encodes_low rfl rfl (by simp [decodeLow, decodeRow050]),
    encodes_low rfl rfl (by simp [decodeLow, decodeRow050]), encodes_low rfl rfl (by simp [decodeLow, decodeRow050]),
    encodes_high rfl rfl (by simp [decodeHigh, decodeRow110]),
    encodes_high rfl rfl (by simp [decodeHigh, decodeRow110]), fun s i c d jk => ?_⟩
  rw [← halfNegConstS_eq, ← halfConstS_eq, ← leftConstS_eq, ← shortNegConstS_eq, ← shortConstS_eq]
  exact ⟨resultS_writes .., resultS_writes .., resultS_writes .., resultS_writes .., resultS_writes ..,
    resultS_writes ..⟩

/-! ## Passes -/

/-- A pass moves P past its one parcel and changes nothing else (R232). -/
theorem pass_completes (s : State) : Completes (.next (s.advance 1)) s (· = .p) (fun t => t.p = s.p + 1) :=
  ⟨_, rfl, rfl, s.advance_frame 1⟩

/-- Without Shared registers the guard answers a pass and drops the result it was given (R286). -/
theorem withShared_of_none {s : State} (h : s.params.hasSharedRegs = false) (j : Reg) (r : Result) :
    withShared j s r = .next (s.advance 1) := by
  rw [withShared, h, if_neg Bool.false_ne_true]

/-- Without Shared registers a Shared-register instruction moves P alone (R286). -/
theorem withShared_completes_of_none {s : State} (h : s.params.hasSharedRegs = false) (j : Reg) (r : Result) :
    Completes (withShared j s r) s (· = .p) (fun t => t.p = s.p + 1) := by
  rw [withShared_of_none h]
  exact pass_completes s

/-- Settles O40: three passes on every machine, and three Shared-register instructions without the registers. -/
theorem passesOnlyAdvance : Obligations.PassesOnlyAdvance := by
  refine ⟨encodes_low rfl rfl (by simp [decodeLow, decodeRow070]),
    encodes_low rfl rfl (by simp [decodeLow, decodeRow070]), encodes_high rfl rfl (by simp [decodeHigh, decodeRow130]),
    fun s i j k => ⟨pass_completes s, pass_completes s, pass_completes s, fun hnone => ?_⟩⟩
  exact ⟨withShared_completes_of_none hnone .., withShared_completes_of_none hnone ..,
    withShared_completes_of_none hnone ..⟩

end Sys2Proof.Machine
end

section
/-! The S registers, 100 to 107, 114, 130 and 131: logic, arithmetic, bit counts and transfers as numbers. -/

namespace Sys2Proof.Machine

/-- A result may be written another way. -/
theorem resultS_writes_of_eq {v w : Word} (h : v = w) (i : Reg) (len : Nat) (s : State) :
    WritesS (resultS i v len s) s i w len := by
  rw [← h]
  exact resultS_writes i v len s

/-! ## Logic and arithmetic (R250 to R255) -/

/-- A word is known by its bits. -/
theorem eq_ofFnLE_of_getLsbD {x : Word} {f : Fin 64 → Bool} (h : ∀ b : Fin 64, x.getLsbD b = f b) :
    x = BitVec.ofFnLE f := by
  apply BitVec.eq_of_getLsbD_eq
  intro b hb
  rw [h ⟨b, hb⟩, BitVec.getLsbD_eq_getElem hb, BitVec.getElem_ofFnLE]

/-- Settles O42: each logical instruction works bit by bit, and sums and differences of bit vectors are those of numbers modulo 2^64 (R120). -/
theorem scalarLogicAndArithmetic : Obligations.ScalarLogicAndArithmetic := by
  refine ⟨?_, ?_, ?_, ?_, ?_, ?_, fun s i j k => ⟨?_, ?_, ?_, ?_, ?_, ?_, ?_⟩⟩
  iterate 6 exact encodes_high rfl rfl (by simp [decodeHigh, decodeRow100])
  · exact resultS_writes_of_eq (eq_ofFnLE_of_getLsbD fun b => BitVec.getLsbD_and) ..
  · exact resultS_writes_of_eq (eq_ofFnLE_of_getLsbD fun b => by simp) ..
  · exact resultS_writes_of_eq (eq_ofFnLE_of_getLsbD fun b => BitVec.getLsbD_xor) ..
  · exact resultS_writes_of_eq (eq_ofFnLE_of_getLsbD fun b => BitVec.getLsbD_or) ..
  · exact resultS_writes_of_eq BitVec.or_self ..
  · exact resultS_writes_of_eq (BitVec.eq_of_toNat_eq (by rw [BitVec.toNat_add, BitVec.toNat_ofNat])) ..
  · exact resultS_writes_of_eq (BitVec.eq_of_toInt_eq (by rw [BitVec.toInt_sub, BitVec.toInt_ofInt])) ..

/-! ## Bit counts (R256 to R259) -/

/-- The low sub-codes of 106 are the two counts (R98). -/
theorem decodeParcels_counts106 (i j : Reg) (m1 m2 m3 m4 : Parcel) :
    decodeParcels (parcelOf 0o106 i j 0) m1 m2 m3 m4 = .popS i j ∧
      decodeParcels (parcelOf 0o106 i j 1) m1 m2 m3 m4 = .parityS i j := by
  constructor <;> (rw [decodeParcels_parcelOf]; simp [decodeHigh, decodeRow100])

/-- 107 leaves its field k unread (R100). -/
theorem encodes_lzS : Encodes 0o107 1 (fun i j _ _ _ _ _ => .lzS i j) :=
  encodes_high rfl rfl (by simp [decodeHigh, decodeRow100])

/-- Settles O43: the population count is a number of bits, and the leading zeros are what `leadingZeros_spec` says. -/
theorem scalarBitCounts : Obligations.ScalarBitCounts := by
  obtain ⟨hlen, hlz⟩ := encodes_lzS
  refine ⟨fun i j r m1 m2 m3 m4 => ?_, rfl, hlen, fun s i j => ⟨?_, ?_, ?_⟩⟩
  · obtain ⟨hpop, hparity⟩ := decodeParcels_counts106 r j m1 m2 m3 m4
    exact ⟨hpop, hparity, hlz ..⟩
  · rw [← popcount_eq_card]
    exact resultS_writes ..
  · rw [← popcount_eq_card]
    exact resultS_writes ..
  · obtain ⟨hle, hzeros, hone⟩ := leadingZeros_spec (s.S j)
    exact ⟨leadingZeros (s.S j), hle, resultS_writes .., hzeros, hone⟩

/-! ## Transfers (R264, R276, R277) -/

/-- Zero extension keeps the unsigned value (R276). -/
theorem zext64_eq_ofNat (a : Addr) : zext64 a = BitVec.ofNat 64 a.toNat := (BitVec.ofNat_toNat 64 a).symm

/-- Sign extension keeps the signed value (R277). -/
theorem sext64_eq_ofInt (a : Addr) : sext64 a = BitVec.ofInt 64 a.toInt := rfl

/-- Settles O45: three results in an S register, each extension a value kept. -/
theorem scalarTransfers : Obligations.ScalarTransfers := by
  refine ⟨encodes_high rfl rfl (by simp [decodeHigh, decodeRow110]),
    encodes_high rfl rfl (by simp [decodeHigh, decodeRow130]),
    encodes_high rfl rfl (by simp [decodeHigh, decodeRow130]), fun s i k => ?_⟩
  rw [← zext64_eq_ofNat, ← sext64_eq_ofInt]
  exact ⟨resultS_writes .., resultS_writes .., resultS_writes ..⟩

end Sys2Proof.Machine
end

section
/-! The Shared registers, 134, 136 and 137, on machines that have them. -/

namespace Sys2Proof.Machine

variable {s : State} {j : Reg}

theorem State.setSr_frame (s : State) (n : Reg) (v : Addr) : Frame (· = .sr n) s (s.setSr n v) := by
  intro l hl
  cases l with
  | sr m =>
    have hne : n ≠ m := fun h => hl (by rw [h])
    exact (s.setSr_get n m v).trans (if_neg hne)
  | cm a => exact ⟨rfl, rfl⟩
  | _ => rfl

/-- With Shared registers the guard answers, for j below 2, the result it was given (R286). -/
theorem withShared_completes_of_lt (h : s.params.hasSharedRegs = true) (hj : j.val < 2) {r : Result}
    {changed : Loc → Prop} {post : State → Prop} (hr : Completes r s changed post) :
    Completes (withShared j s r) s changed post := by
  rwa [withShared, if_pos h, if_pos hj]

/-- A number of 2 or more has no meaning (R286, D25; log 44). -/
theorem withShared_of_le (h : s.params.hasSharedRegs = true) (hj : 2 ≤ j.val) (r : Result) :
    withShared j s r = .refused .sharedRegisterNumber := by
  rw [withShared, if_pos h, if_neg (Nat.not_lt.2 hj)]

/-- `SR[j]` receives a value, and nothing else but P changes (R283). -/
theorem setSr_completes (s : State) (j : Reg) (v : Addr) :
    Completes (.next ((s.setSr j v).advance 1)) s (fun l => l = .p ∨ l = .sr j)
      (fun t => t.sr.get j = v ∧ t.p = s.p + 1) :=
  ⟨_, rfl, ⟨(s.setSr_get j j v).trans (if_pos rfl), rfl⟩,
    ((s.setSr_frame j v).trans (State.advance_frame _ 1)).mono fun _ => Or.symm⟩

/-- `A[i]` receives one value and `SR[j]` another (R287). -/
theorem resultA_setSr_completes (s : State) (i j : Reg) (v w : Addr) :
    Completes (resultA i v 1 (s.setSr j w)) s (fun l => l = .p ∨ l = .a i ∨ l = .sr j)
      (fun t => t.A i = v ∧ t.sr.get j = w ∧ t.p = s.p + 1) := by
  obtain ⟨t, hr, ⟨hA, hp⟩, hframe⟩ := resultA_writes i v 1 (s.setSr j w)
  refine ⟨t, hr, ⟨hA, ?_, hp⟩, ((s.setSr_frame j w).trans hframe).mono fun _ => by tauto⟩
  have hsr : t.sr.get j = (s.setSr j w).sr.get j := hframe (.sr j) (by simp)
  rw [hsr, State.setSr_get, if_pos rfl]

/-- Settles O41: below 2 the guard answers the result it was given, which is of one of three shapes, and above it refuses. -/
theorem sharedRegistersAreReached : Obligations.SharedRegistersAreReached := by
  refine ⟨encodes_high rfl rfl (by simp [decodeHigh, decodeRow130]),
    encodes_high rfl rfl (by simp [decodeHigh, decodeRow130]),
    encodes_high rfl rfl (by simp [decodeHigh, decodeRow130]),
    fun s i j k hsome => ⟨fun hj => ⟨?_, ?_, ?_⟩, fun hj => ⟨?_, ?_, ?_⟩⟩⟩
  · exact withShared_completes_of_lt hsome hj (setSr_completes s j (s.A k))
  · exact withShared_completes_of_lt hsome hj (resultA_writes i (s.sr.get j) 1 s)
  · exact withShared_completes_of_lt hsome hj (resultA_setSr_completes s i j (s.sr.get j) (s.sr.get j + 1))
  all_goals exact withShared_of_le hsome hj _

end Sys2Proof.Machine
end

section
/-! The scalar floating-point instructions, 120 to 127, 132 and 133: the result is delivered, and an enabled range error halts the processor. -/

namespace Sys2Proof.Machine

variable {s u : State} {extra : Loc → Prop}

/-- A stop after writes that leave P and Common Memory alone: beside the places of those writes it changes what a stop changes (R343, R344, R349). -/
theorem stop_completes_of_frame (why : RunEnd) (len : Nat) (post : State → Prop) (hframe : Frame extra s u)
    (hp : ¬ extra .p) (hcm : ∀ a, ¬ extra (.cm a)) (hpost : post (u.stop why len)) :
    Completes (.next (u.stop why len)) s (fun l => StopLoc l ∨ WaitingLoc s l ∨ extra l)
      (fun t => post t ∧ Stopped why len s t ∧ Landed s t) := by
  have hup : u.p = s.p := hframe .p hp
  have hwaiting : ∀ a, u.waiting a = s.waiting a := fun a => (hframe (.cm a) (hcm a)).2
  have hread : ∀ a, u.cm.read a = s.cm.read a := fun a => (hframe (.cm a) (hcm a)).1
  refine ⟨_, rfl, ⟨hpost, ?_, fun a => ?_⟩, (hframe.trans (u.stop_frame why len)).mono ?_⟩
  · have hstop := u.stop_stopped why len
    rwa [Stopped, hup] at hstop
  · rw [← hwaiting, ← hread]
    exact u.stop_landed why len a
  · rintro l (h | h | ⟨a, rfl, h⟩)
    · exact .inr (.inr h)
    · exact .inl h
    · exact .inr (.inl ⟨a, rfl, hwaiting a ▸ h⟩)

theorem State.signalFp_frame (s : State) : Frame (· = .fpError) s (s.setBps { s.bps with fpError := true }) := by
  intro l hl
  cases l with
  | fpError => exact absurd rfl hl
  | cm a => exact ⟨rfl, rfl⟩
  | _ => rfl

/-- A scalar floating-point result is delivered with or without an error, and an enabled error halts (R280, R344). -/
theorem scalarFpResult_writes (i : Reg) (x : Word × Bool) (s : State) : WritesFpS (scalarFpResult i x s) s i x := by
  rw [scalarFpResult]
  obtain ⟨hgo, e⟩ | ⟨herr, hen, e⟩ := (s.setS i x.1).completeFp_cases x.2 <;> rw [e]
  · refine ⟨fun _ => resultS_writes i x.1 1 s, fun ⟨herr, hen⟩ => ?_⟩
    simp [herr, hen] at hgo
  · refine ⟨fun hgo => absurd hgo (by simpa [herr] using hen), fun _ => ?_⟩
    have hframe := (s.setS_frame i x.1).trans (s.setS i x.1).signalFp_frame
    obtain ⟨t, ht, ⟨⟨hS, hsignal⟩, hstopped, hlanded⟩, hrest⟩ :=
      stop_completes_of_frame .haltedFp 1 (fun t => t.S i = x.1 ∧ t.bps.fpError = true) hframe (by simp) (by simp)
        ⟨by simp, by simp⟩
    exact ⟨t, ht, ⟨hS, hsignal, hstopped, hlanded⟩, hrest⟩

/-- Settles O47: every code of the rows is one scalar floating-point result. -/
theorem scalarFloatingPointResults : Obligations.ScalarFloatingPointResults := by
  refine ⟨?_, ?_, ?_, ?_, ?_, ?_, ?_, ?_, ?_, ?_, fun s i j k => ?_⟩
  iterate 8 exact encodes_high rfl rfl (by simp [decodeHigh, decodeRow120])
  iterate 2 exact encodes_high rfl rfl (by simp [decodeHigh, decodeRow130])
  exact ⟨scalarFpResult_writes .., scalarFpResult_writes .., scalarFpResult_writes .., scalarFpResult_writes ..,
    scalarFpResult_writes .., scalarFpResult_writes .., scalarFpResult_writes .., scalarFpResult_writes ..,
    scalarFpResult_writes .., scalarFpResult_writes ..⟩

end Sys2Proof.Machine
end

section
/-! The vector floating-point instructions, 154 to 157, 166, 167 and 170 to 175: each element result is delivered, and an enabled range error halts the processor. -/

namespace Sys2Proof.Machine

variable {s : State} {i j k : Reg}

theorem State.any_elements_eq_true {s : State} {f : Elem → Bool} :
    s.elements.any f = true ↔ ∃ e : Elem, e.val < s.vlen ∧ f e = true := by
  simp only [List.any_eq_true, State.mem_elements]

/-- The element results are delivered with or without an error, and an enabled error halts (R290, R344). -/
theorem vectorFpResult_writes (i : Reg) (f : Elem → Word × Bool) (s : State) :
    WritesFpV (vectorFpResult i f s) s i f := by
  rw [vectorFpResult]
  obtain ⟨hgo, e⟩ | ⟨herr, hen, e⟩ :=
    (s.writeElems i s.vlen fun e => (f e).1).completeFp_cases (s.elements.any fun e => (f e).2) <;> rw [e]
  · refine ⟨fun _ => vectorResult_writes s i fun e => (f e).1, fun ⟨hsome, hen⟩ => ?_⟩
    simp [State.any_elements_eq_true.2 hsome, hen] at hgo
  · obtain ⟨e, he, hfe⟩ := State.any_elements_eq_true.1 herr
    refine ⟨fun hgo => ?_, fun _ => ?_⟩
    · obtain hnone | hoff := hgo
      · exact absurd hfe (by simp [hnone e he])
      · exact absurd hen (by simp [hoff])
    · have hframe := (s.writeElems_frame i s.vlen fun e => (f e).1).trans (State.signalFp_frame _)
      obtain ⟨t, ht, ⟨⟨hV, hsignal⟩, hstopped, hlanded⟩, hrest⟩ :=
        stop_completes_of_frame .haltedFp 1
          (fun t => (∀ e : Elem, e.val < s.vlen → t.V i e = (f e).1) ∧ t.bps.fpError = true) hframe (by simp) (by simp)
          ⟨fun e he => by simp [he], by simp⟩
      exact ⟨t, ht, ⟨hV, hsignal, hstopped, hlanded⟩, hrest.mono fun _ => by tauto⟩

/-! ## The shapes of the instructions -/

/-- The guard lets an instruction pass whose overlap is not refused (R291; log 27). -/
theorem guardOverlap_pass {overlap : Bool} (h : overlap = true → s.params.vSrcEqDst ≠ .refuse) (r : Result) :
    guardOverlap overlap s r = r := by
  cases overlap
  · exact guardOverlap_false s r
  · exact guardOverlap_of_ne true r (h rfl)

theorem scalarVectorFp_writes (h : i = k → s.params.vSrcEqDst ≠ .refuse) (f : Word → Word → Word × Bool) :
    WritesFpV (scalarVectorFp i j k f s) s i (fun e => f (s.S j) (s.stream i k e)) := by
  rw [scalarVectorFp, guardOverlap_pass fun hik => h (of_decide_eq_true hik)]
  exact vectorFpResult_writes ..

theorem vectorVectorFp_writes (h : i = j ∨ i = k → s.params.vSrcEqDst ≠ .refuse) (f : Word → Word → Word × Bool) :
    WritesFpV (vectorVectorFp i j k f s) s i (fun e => f (s.stream i j e) (s.stream i k e)) := by
  rw [vectorVectorFp, guardOverlap_pass fun hijk => h (by simpa using hijk)]
  exact vectorFpResult_writes ..

theorem vectorUnaryFp_writes {n : Reg} (h : i = n → s.params.vSrcEqDst ≠ .refuse) (f : Word → Word × Bool) :
    WritesFpV (vectorUnaryFp i n f s) s i (fun e => f (s.stream i n e)) := by
  rw [vectorUnaryFp, guardOverlap_pass fun hin => h (of_decide_eq_true hin)]
  exact vectorFpResult_writes ..

/-- Settles O57: three shapes, each with the functions of its codes. -/
theorem vectorFloatingPointResults : Obligations.VectorFloatingPointResults := by
  refine ⟨?_, ?_, ?_, ?_, ?_, ?_, ?_, ?_, ?_, ?_, ?_, ?_, fun s i j k hik =>
    ⟨scalarVectorFp_writes hik fmul, scalarVectorFp_writes hik fadd, scalarVectorFp_writes hik fsub,
      vectorUnaryFp_writes hik recipApprox, vectorUnaryFp_writes hik rsqrtApprox, vectorUnaryFp_writes hik fix,
      vectorUnaryFp_writes hik flt, fun hij => ?_⟩⟩
  iterate 4 exact encodes_high rfl rfl (by simp [decodeHigh, decodeRow150])
  iterate 2 exact encodes_high rfl rfl (by simp [decodeHigh, decodeRow160])
  iterate 6 exact encodes_high rfl rfl (by simp [decodeHigh, decodeRow170])
  have hijk : i = j ∨ i = k → s.params.vSrcEqDst ≠ .refuse := fun h => h.elim hij hik
  exact ⟨vectorVectorFp_writes hijk fmul, vectorVectorFp_writes hijk recipIter, vectorVectorFp_writes hijk rsqrtIter,
    vectorVectorFp_writes hijk fadd, vectorVectorFp_writes hijk fsub⟩

/-! ## The special forms -/

/-- The difference from zero is the negative of the signed value modulo 2^64 (R120, R315). -/
theorem ofInt_neg_toInt (x : Word) : BitVec.ofInt 64 (-x.toInt) = 0 - x := by
  rw [BitVec.ofInt_neg, BitVec.ofInt_toInt]
  exact (BitVec.zero_sub x).symm

/-- Settles O55: each special form is its code with two designators equal, and has the shape of an instruction without V[i] among its sources. -/
theorem vectorSpecialForms : Obligations.VectorSpecialForms := by
  obtain ⟨-, -, -, ⟨-, h143⟩, ⟨-, h144⟩, -, -, -, -, ⟨-, h163⟩, -⟩ := vectorLogicArithmeticAndCounts
  obtain ⟨-, -, -, -, -, -, -, -, -, ⟨-, h173⟩, -⟩ := vectorFloatingPointResults
  refine ⟨fun i j k m1 m2 m3 m4 => ⟨?_, ?_, ?_, ?_⟩, fun s i j k =>
    ⟨vectorResult_writes .., vectorResult_writes .., fun hik => ⟨?_, vectorUnaryFp_writes hik (fsub 0)⟩⟩⟩
  · exact (h143 ..).trans (if_pos ⟨rfl, rfl⟩)
  · exact (h144 ..).trans (if_pos rfl)
  · exact (h163 ..).trans (if_pos rfl)
  · exact (h173 ..).trans (if_pos rfl)
  · exact (vectorUnary_writes hik fun x => 0 - x).congr fun e => (ofInt_neg_toInt _).symm

end Sys2Proof.Machine
end

section
/-! The compressed iota, 176 and 177: the positions of a mask's 1 bits, the multiples of the stride, and what the instruction writes. -/

namespace Sys2Proof.Machine

/-! ## Positions of a mask (R329) -/

/-- In an increasing list an entry stands at the number of the entries below it. -/
theorem getElem?_length_filter_lt {l : List (Fin 64)} (hl : l.Pairwise (· < ·)) {p : Fin 64} (hp : p ∈ l) :
    l[(l.filter (· < p)).length]? = some p := by
  induction l with
  | nil => simp at hp
  | cons x xs ih =>
    obtain ⟨hx, hxs⟩ := List.pairwise_cons.1 hl
    obtain rfl | hmem := List.mem_cons.1 hp
    · have hnone : xs.filter (· < p) = [] := List.filter_eq_nil_iff.2 fun y hy => by simpa using (hx y hy).le
      simp [hnone]
    · simpa [hx p hmem] using ih hxs hmem

/-- The filtered list of the elements counts what the filtered set counts. -/
theorem length_filter_finRange (f : Fin 64 → Bool) :
    ((List.finRange 64).filter f).length = (Finset.univ.filter fun q => f q = true).card := by
  simp [Finset.card_def, Finset.filter_val, Fin.univ_def]

theorem length_maskPositions (m : Word) :
    (maskPositions m).length = (Finset.univ.filter fun q : Fin 64 => m.getLsbD (63 - q.val)).card := by
  rw [maskPositions, List.length_map, length_filter_finRange]

/-- A 1 bit of a mask stands at the number of the 1 bits before it (R329). -/
theorem getElem?_maskPositions {m : Word} {p : Fin 64} (hp : m.getLsbD (63 - p.val) = true) :
    (maskPositions m)[(Finset.univ.filter fun q : Fin 64 => q < p ∧ m.getLsbD (63 - q.val)).card]? = some p.val := by
  have hmem : p ∈ (List.finRange 64).filter fun q => m.getLsbD (63 - q.val) :=
    List.mem_filter.2 ⟨List.mem_finRange p, hp⟩
  have hentry := getElem?_length_filter_lt ((List.pairwise_lt_finRange 64).filter _) hmem
  rw [List.filter_filter, length_filter_finRange] at hentry
  simp only [Bool.and_eq_true, decide_eq_true_eq] at hentry
  rw [maskPositions, List.getElem?_map, hentry, Option.map_some]

/-! ## Multiples of the stride (R329, D17; log 41) -/

/-- Where 63 times the stride is below 2^32 the readings agree. -/
theorem iotaValue_of_small {d : Addr} (hd : 63 * d.toNat < 2 ^ 32) (p : Nat) :
    iotaValue p d = BitVec.ofNat 64 (p * d.toNat) :=
  if_pos ⟨by omega, hd⟩

/-- The product as a number is the reading that extends the stride with zeros to 64 bits. -/
theorem iotaBy_acc64Zext (p : Nat) (d : Addr) : iotaBy .acc64Zext p d = BitVec.ofNat 64 (p * d.toNat) := by
  rw [BitVec.ofNat_mul, ← zext64_eq_ofNat]
  rfl

theorem iotaValue_eq_iotaBy (p : Nat) (d : Addr) : ∃ acc, iotaValue p d = iotaBy acc p d := by
  rw [iotaValue]
  split
  · exact ⟨.acc64Zext, (iotaBy_acc64Zext p d).symm⟩
  · exact ⟨Config.iotaAcc, rfl⟩

/-! ## The instruction -/

/-- The value for each 1 bit goes to the element with the number of the 1 bits before it; the elements from the number of all 1 bits on are left (R329). -/
theorem iotaResult_completes (s : State) (i j k : Reg) :
    Completes (iotaResult i j k s) s
      (fun l => l = .p ∨ ∃ e : Elem, l = .v i e ∧
        e.val < (Finset.univ.filter fun q : Fin 64 => (s.S j).getLsbD (63 - q.val)).card)
      (fun t => (∀ p c : Fin 64, (s.S j).getLsbD (63 - p.val) = true →
        c.val = (Finset.univ.filter fun q : Fin 64 => q < p ∧ (s.S j).getLsbD (63 - q.val)).card →
        t.V i c = iotaValue p.val (low32 (s.S k))) ∧ t.p = s.p + 1) := by
  refine ⟨_, rfl, ⟨fun p c hp hc => ?_, rfl⟩, ?_⟩
  · have hentry := getElem?_maskPositions hp
    rw [← hc] at hentry
    obtain ⟨hlt, hget⟩ := List.getElem?_eq_some_iff.1 hentry
    simp [hlt, hget]
  · rw [← length_maskPositions]
    exact ((s.writeElems_frame i _ _).trans (State.advance_frame _ 1)).mono fun _ => Or.symm

/-- Settles O58: both codes are one result, its values read by the stride. -/
theorem compressedIota : Obligations.CompressedIota := by
  refine ⟨encodes_high rfl rfl (by simp [decodeHigh, decodeRow170]),
    encodes_high rfl rfl (by simp [decodeHigh, decodeRow170]), fun s i j k x d hx hd => ?_⟩
  rw [← low32_eq] at hd
  subst hd
  have hexec : exec x s = iotaResult i j k s := by obtain rfl | rfl := hx <;> rfl
  rw [hexec]
  obtain ⟨t, ht, ⟨hV, hp⟩, hrest⟩ := iotaResult_completes s i j k
  refine ⟨t, ht, ⟨fun p c hbit hc => ?_, hp⟩, hrest⟩
  rw [hV p c hbit hc]
  exact ⟨fun hsmall => iotaValue_of_small hsmall p.val, iotaValue_eq_iotaBy p.val _⟩

end Sys2Proof.Machine
end

section
/-! The launch of a computation period: what the loader's image leaves in Common Memory, that the start of a period keeps the invariant, and the statement about launches (R352, R382 to R385; log 54). -/

namespace Sys2Proof.Machine

variable {s : State} {r : LaunchRecord}

/-! ## The launch record and its image (R62, R384) -/

theorem LaunchRecord.wellFormed_iff {params : Params} :
    r.wellFormed params = true ↔
      r.ba.toNat ≤ r.la.toNat ∧ r.la.toNat ≤ params.cmWords ∧ ∀ c ∈ r.image, r.ba.toNat + c.1 < r.la.toNat := by
  simp [LaunchRecord.wellFormed, and_assoc]

/-- An image within the field is within installed memory (R62). -/
theorem LaunchRecord.load_wf {params : Params} {m : Memory} (hr : r.wellFormed params = true)
    (hm : Memory.wf params.cmWords m = true) : Memory.wf params.cmWords (r.load m) = true := by
  obtain ⟨-, hla, himage⟩ := LaunchRecord.wellFormed_iff.1 hr
  exact Memory.foldl_write_wf r.image _ _ hm fun c hc => (himage c hc).trans_le hla

/-- Where no two words of the image share an address, each is there after the loading. -/
theorem LaunchRecord.read_load_of_mem (hdistinct : r.image.Pairwise (fun c d => c.1 ≠ d.1)) (m : Memory)
    {c : Nat × Word} (hc : c ∈ r.image) : (r.load m).read (r.ba.toNat + c.1) = c.2 := by
  have hnodup : (r.image.map Prod.fst).Nodup := List.pairwise_map.2 hdistinct
  exact Memory.read_foldl_write_of_injective r.image (fun c => r.ba.toNat + c.1) _ m
    (fun _ hc _ hd h => List.inj_on_of_nodup_map hnodup hc hd (Nat.add_left_cancel h)) hc

theorem LaunchRecord.read_load_other (m : Memory) {a : Nat} (ha : ∀ c ∈ r.image, r.ba.toNat + c.1 ≠ a) :
    (r.load m).read a = m.read a :=
  Memory.read_foldl_write_other r.image _ _ m ha

/-! ## The start of a period -/

/-- The port is emptied and the Idle Mode flag cleared with the run state, so only the image has to fit in memory. -/
theorem Invariant.startPeriod (h : Invariant s) (hr : r.wellFormed s.params = true) : Invariant (s.startPeriod r) where
  cmWf := LaunchRecord.load_wf hr h.cmWf
  lmWf := h.lmWf
  pendingInstalled := by simp [Port.empty]
  idleFlag := by simp
  idleQuiet _ := rfl
  orderedQuiet _ := rfl
  runningOpen _ := rfl

/-- Only the assigned semaphore flag takes a value (R384; log 54). -/
theorem State.startPeriod_sem_get (n : Reg) :
    (s.startPeriod r).sem.get n = if r.semSelect = n then r.sem0 else s.sem.get n := by
  rw [State.startPeriod_sem, sem_set_get]

theorem State.startPeriod_semf : (s.startPeriod r).semf = r.sem0 :=
  (State.startPeriod_sem_get r.semSelect).trans (if_pos rfl)

/-- Settles O11: a launch of an idle processor is the start of a period, which keeps the invariant and loads the image. -/
theorem launchStartsAComputationPeriod : Obligations.LaunchStartsAComputationPeriod := by
  refine ⟨fun s r => State.launch_running r, fun s r hinv hidle hr => ?_⟩
  rw [State.launch_idle r hidle]
  have hotherFlags : ∀ n, n ≠ r.semSelect → (s.startPeriod r).sem.get n = s.sem.get n := fun n hn =>
    (State.startPeriod_sem_get n).trans (if_neg hn.symm)
  exact ⟨hinv.startPeriod hr, rfl, rfl, rfl, rfl, rfl, rfl, State.startPeriod_semf, hotherFlags,
    rfl, rfl, rfl, rfl, rfl, rfl, rfl, rfl, fun _ => rfl,
    fun hdistinct _ => LaunchRecord.read_load_of_mem hdistinct s.cm, fun _ => LaunchRecord.read_load_other s.cm,
    rfl, rfl, fun _ => ⟨rfl, rfl, fun _ => rfl⟩, rfl, rfl, rfl, rfl, rfl⟩

end Sys2Proof.Machine
end

section
/-! The state after reset: idle with nothing outstanding, and the base case of the invariant that every step keeps (R381, R382; log 1, 2, 3, 59). -/

namespace Sys2Proof.Machine

/-! ## The fields after reset -/

@[simp] theorem State.reset_run : State.reset.run = .idle := rfl
@[simp] theorem State.reset_idleMode : State.reset.bps.idleMode = true := rfl
@[simp] theorem State.reset_port : State.reset.port = Port.empty := rfl
@[simp] theorem State.reset_dirty : State.reset.dirty = [] := rfl
@[simp] theorem State.reset_ended : State.reset.ended = none := rfl

/-! ## The statements about reset -/

/-- Settles O8: each part is a field after reset. -/
theorem resetIsIdle : Obligations.ResetIsIdle :=
  ⟨State.reset_run, State.reset_idleMode, State.reset_port, State.reset_dirty, State.reset_ended⟩

/-- Settles O9: memories that list no word are canonical within every bound, and an empty port has no write that waits. -/
theorem invariantHoldsAtReset : Obligations.InvariantHoldsAtReset where
  cmWf := Memory.wf_nil _
  lmWf := Memory.wf_nil _
  pendingInstalled := by simp [Port.empty]
  idleFlag := iff_of_true State.reset_run State.reset_idleMode
  idleQuiet _ := State.reset_port
  orderedQuiet _ := State.reset_port
  runningOpen _ := State.reset_ended

end Sys2Proof.Machine
end
